-- ==== Sys2Proof/Word.lean ====
section
/-! DEFINITION. The word types of the part and the fixed-size tables its blocks keep. -/

namespace Sys2Proof

/-- One byte of a cell. -/
abbrev Byte := BitVec 8
/-- A two-byte field, and the word of a library record (R80). -/
abbrev W16 := BitVec 16
/-- A four-byte field. -/
abbrev W32 := BitVec 32
/-- A serial (R60): the identity a tile reports. -/
abbrev W64 := BitVec 64

/-- A slot of the chain, 0 to 15. -/
abbrev SlotId := Fin 16

/-- A table of `n` entries, indexed 0 to n - 1. -/
structure Table (α : Type) (n : Nat) where
  entries : List α
  size : entries.length = n
deriving DecidableEq, Repr

namespace Table

variable {α β : Type} {n : Nat}

/-- The entry at index `i`. -/
def get (t : Table α n) (i : Fin n) : α :=
  t.entries[i.val]'(by rw [t.size]; exact i.isLt)

/-- The table with the entry at `i` replaced. -/
def set (t : Table α n) (i : Fin n) (a : α) : Table α n :=
  ⟨t.entries.set i.val a, by rw [List.length_set]; exact t.size⟩

/-- Every entry mapped by `f`. -/
def map (f : α → β) (t : Table α n) : Table β n :=
  ⟨t.entries.map f, by rw [List.length_map]; exact t.size⟩

/-- The table whose every entry is `a`. -/
def replicate (n : Nat) (a : α) : Table α n :=
  ⟨List.replicate n a, List.length_replicate⟩

/-- The table whose entry at `i` is `f i`. -/
def tabulate (f : Fin n → α) : Table α n :=
  ⟨List.ofFn f, List.length_ofFn⟩

end Table

/-- The sixteen slots in ascending order. -/
def allSlots : List SlotId :=
  [0, 1, 2, 3, 4, 5, 6, 7, 8, 9, 10, 11, 12, 13, 14, 15]

/-- Three channel values, always in the order R, G, B (00_scope.md 0.6). -/
structure Rgb (α : Type) where
  r : α
  g : α
  b : α
deriving DecidableEq, Repr

namespace Rgb

variable {α β γ : Type}

/-- The same value in each channel. -/
def all (a : α) : Rgb α := ⟨a, a, a⟩

/-- Each channel mapped by `f`. -/
def map (f : α → β) (p : Rgb α) : Rgb β := ⟨f p.r, f p.g, f p.b⟩

/-- Channel by channel combination. -/
def zip (f : α → β → γ) (p : Rgb α) (q : Rgb β) : Rgb γ :=
  ⟨f p.r q.r, f p.g q.g, f p.b q.b⟩

/-- The three values in channel order. -/
def toList (p : Rgb α) : List α := [p.r, p.g, p.b]

end Rgb

end Sys2Proof
end

