-- ==== Sys2Proof/Syntax.lean ====
section
/-! DEFINITION. The commands the part takes: one constructor of `Instr` per row of spec/opcode_table.json, with the
operands the spec's cells and events carry (Table 1-2, Table 1-3). -/

namespace Sys2Proof

/-- The two upstream ports (1.3). -/
inductive Up where
  | ua
  | ub
deriving DecidableEq, Repr

/-- The three tile-link ports (00_scope.md 0.3). -/
inductive Port where
  | up (p : Up)
  | d
deriving DecidableEq, Repr

/-- A cell as it stands in a queue or a transmitter: Table 1-1 without the length, which is that of the payload,
and without the CRC, which every transmitter computes (R2). -/
structure Cell where
  kind : Byte
  tag : W16
  payload : List Byte
deriving DecidableEq, Repr

/-- One pixel of a PIXEL-RUN as carried: 16 bits a channel, of which the lower 12 count (R20). -/
abbrev RawPixel := Rgb W16

/-- A plan entry as a WRITE-PLAN carries it (Table 1-5). -/
structure RawPlan where
  kind : Byte
  dark : Byte
  line : W16
  column : W16
  width : W16
  height : W16
  orientation : Byte
  mirror : Byte
  target : Byte
  pitch : Byte
  colour : Rgb W16
deriving DecidableEq, Repr

/-- A band entry as a WRITE-BAND carries it (Table 1-6). -/
structure RawBand where
  enabled : Byte
  y0 : Byte
  y1 : Byte
  startEdge : W32
  endEdge : W32
  startSlope : W32
  endSlope : W32
  startGain : W16
  endGain : W16
deriving DecidableEq, Repr

/-- The commands. A port operand says on which port the cell or event arrives; a tag is the cell's own (Table 1-1). -/
inductive Instr where
  /-- R2: a CRC-failed or truncated cell on a port. -/
  | crcFailedCell (p : Port)
  /-- R1: loss of signal, with whether a cell was in progress at the report. -/
  | lossOfSignal (p : Port) (cellInProgress : Bool)
  /-- R3: a CRC-good cell of a kind not taken on the port, or malformed. -/
  | foreignCell (p : Port) (c : Cell)
  /-- R37: a FRAME-OPEN with its frame number. -/
  | frameOpen (p : Up) (n : W16)
  /-- R34: a PIXEL-RUN with its canvas line, first column and pixels. -/
  | pixelRun (p : Up) (line column : W16) (pixels : List RawPixel)
  /-- R39: a FRAME-CLOSE with its frame number. -/
  | frameClose (p : Up) (n : W16)
  /-- R5: the frame open limit expires for a tracker's open frame. -/
  | trackerLimitExpiry (p : Up)
  /-- R6: the source loss time expires for an UP port. -/
  | sourceLossTimeExpiry (p : Up)
  /-- R40: the frame open limit expires for the frame in RECEIVING. -/
  | frameOpenLimitExpiry
  /-- R70: an IDENT on D. -/
  | ident (tag : W16) (slot : Byte) (serial : W64) (width height : W16) (depth : Byte) (hours : BitVec 24)
  /-- R72: a SENSE-REPLY on D. -/
  | senseReply (tag : W16) (slot : Byte) (short : W16) (temperature : W16) (hours : BitVec 24)
  /-- R17: a TILE-ALERT on D. -/
  | tileAlert (tag : W16) (payload : List Byte)
  /-- R14: the last byte of a return-queue cell leaves. -/
  | returnCellSent (p : Up)
  | readSetting (p : Up) (tag : W16) (number : Byte)
  | writeSetting (p : Up) (tag : W16) (number : Byte) (value : W32)
  | readPlan (p : Up) (tag : W16) (slot : Byte)
  | writePlan (p : Up) (tag : W16) (slot : Byte) (entry : RawPlan)
  | readSlot (p : Up) (tag : W16) (slot : Byte)
  | readBand (p : Up) (tag : W16) (slot band : Byte)
  | writeBand (p : Up) (tag : W16) (slot band : Byte) (entry : RawBand)
  | libOpen (p : Up) (tag : W16) (identity : W64)
  | libPut (p : Up) (tag : W16) (pointer : W16) (words : List W16)
  | libClose (p : Up) (tag : W16)
  | libAbort (p : Up) (tag : W16)
  | libDelete (p : Up) (tag : W16) (identity : W64)
  | libRead (p : Up) (tag : W16) (identity : W64) (first : W16) (count : Byte)
  | libList (p : Up) (tag : W16) (first count : Byte)
  | setLevel (p : Up) (tag : W16) (level : W32)
  | readLevel (p : Up) (tag : W16)
  | flagTest (p : Up) (tag : W16) (flag : Byte)
  | flagSet (p : Up) (tag : W16) (flag : Byte)
  | flagClear (p : Up) (tag : W16) (flag : Byte)
  | flagChange (p : Up) (tag : W16) (flag : Byte)
  | readCauses (p : Up) (tag : W16)
  | clearCauses (p : Up) (tag : W16) (causes : W16)
  | writeCauseControl (p : Up) (tag : W16) (cause enable level : Byte)
  | probeSlots (p : Up) (tag : W16) (slots : W16)
  | senseSlot (p : Up) (tag : W16) (slot : Byte)
  | readPorts (p : Up) (tag : W16)
  | restart (p : Up) (tag : W16)
  /-- R172: a REQUEST whose code is unknown, or whose operands have the wrong length for its code. -/
  | unknownRequest (p : Up) (tag : W16) (code : Byte) (operands : List Byte)
  /-- R186: the deferred restart is carried out. -/
  | restartAtScanEnd
  /-- R45: the last byte of TILE-SHOW leaves port D. -/
  | scanEnd
  /-- R50: a TILE-PIXELS cell finishes transmission. -/
  | tilePixelsSent
  /-- R46: the repeat interval expires in IDLE. -/
  | repeatTimerExpiry
  /-- R54: BLANKn goes low. -/
  | blanknAssertion
  /-- R54: BLANKn goes high. -/
  | blanknDeassertion
  /-- R53: the hold limit expires in LIVE. -/
  | holdLimitExpiry
  /-- R62: the last byte of a PROBE leaves port D. -/
  | probeSent
  /-- R62: the last byte of a SENSE-REQUEST leaves port D. -/
  | senseRequestSent
  /-- R69: the outstanding probe times out. -/
  | probeTimeout
  /-- R73: the outstanding sense request times out. -/
  | senseTimeout
  /-- R68: an ABSENT slot's probe-due time is reached. -/
  | probeDue (slot : SlotId)
  /-- R92: 2000 ms have elapsed since LIB-OPEN. -/
  | loadLimitExpiry
  /-- R192: the arbiter makes an offer. -/
  | noticeOffer
  /-- R18: RESETn or power-up. -/
  | powerReset
  /-- R1: symbols become recognisable again on a port. -/
  | symbolsReturn (p : Port)
deriving DecidableEq, Repr

end Sys2Proof
end

