-- ==== Sys2Proof/Decode.lean ====
section
/-! DEFINITION. The reading of a table word. No row of spec/opcode_table.json gives bits ("fields": [] in each), so no
word spells a command (log 23). The reading of a cell's bytes is in Sys2Proof/Machine/Receive.lean. -/

namespace Sys2Proof

/-- The command that a word spells by the table's bits: none, since no row gives bits. -/
def decodeTableWord (_nbits _w : Nat) : Option Instr := none

end Sys2Proof
end

