-- ==== Sys2Proof/Config.lean ====
section
/-! DEFINITION. The capacities the spec fixes for the part. The spec leaves no value to an implementation and no result
undefined, so there is no free value here. -/

namespace Sys2Proof.Config

/-- Places of a return queue (1.7). -/
def queuePlaces : Nat := 32
/-- Where a tally stops (R10). -/
def tallyMax : Nat := 65535
/-- The good run that aligns a port (R4). -/
def goodRunMax : Nat := 8
/-- The failed run that takes a port DOWN (R4). -/
def failedRunMax : Nat := 16
/-- Complete frames that take a port UP (R6). -/
def completeRunMax : Nat := 3
/-- The largest total CANVAS area (R25, R27). -/
def canvasArea : Nat := 262144
/-- The canvas is 4096 lines by 4096 columns (00_scope.md 0.6). -/
def canvasSize : Nat := 4096
/-- Records the library holds at most (R81). -/
def maxRecords : Nat := 48
/-- Entries of the defect pool (R81). -/
def defectPool : Nat := 1024
/-- Words a load can hold (R83). -/
def maxWords : Nat := 223
/-- The load limit in milliseconds (R92). -/
def loadLimit : Nat := 2000
/-- REQUEST cells a port holds while a restart waits (R186). -/
def maxWaiting : Nat := 4
/-- Pixels of one TILE-PIXELS cell at most (R50). -/
def cellPixels : Nat := 64
/-- 1.0 of a drift factor, a level and a combined gain (00_scope.md 0.6). -/
def unity : Nat := 65536
/-- The lower and upper bound of a drift factor (R140). -/
def driftMin : Nat := 49152
/-- The upper bound of a drift factor (R140). -/
def driftMax : Nat := 98304
/-- The bounds of a band factor (R132). -/
def bandMin : Nat := 2048
/-- The upper bound of a band factor (R132). -/
def bandMax : Nat := 6144
/-- The band factor of an uncovered pixel, 1.0 (R132). -/
def bandUnity : Nat := 4096
/-- Where a cause's occurrence count stops (R190). -/
def countMax : Nat := 255
/-- Misses that lose a tile (R73). -/
def maxMisses : Nat := 3

end Sys2Proof.Config
end

