-- ==== Sys2Proof/Machine/Cells.lean ====
section
/-! DEFINITION. Bytes on the link: byte order, the CRC, the cell kinds and the test of a malformed cell (Chapter 1). -/

namespace Sys2Proof.Machine

/-- `n` bytes of `v`, most significant byte first (R20). -/
def beBytes : Nat → Nat → List Byte
  | 0, _ => []
  | n + 1, v => BitVec.ofNat 8 (v >>> (8 * n)) :: beBytes n v

/-- The number that bytes spell, most significant byte first (R20). -/
def beNat (bs : List Byte) : Nat := bs.foldl (fun acc b => 256 * acc + b.toNat) 0

/-- A one-byte field. -/
def byte1 (n : Nat) : Byte := BitVec.ofNat 8 n

/-- A flag byte: 0 for off, 1 for on (R20). -/
def flagByte (b : Bool) : Byte := if b then 1 else 0

/-- The bytes of a two-byte field. -/
def be16 (w : W16) : List Byte := beBytes 2 w.toNat

/-- The field of `n` bytes from offset `at` of a payload; bytes beyond its end read as 0. -/
def field (bs : List Byte) (offset n : Nat) : Nat :=
  beNat ((List.range n).map fun i => bs.getD (offset + i) 0)

/-- One bit of the CRC register of R2, generator x^16 + x^12 + x^5 + 1. -/
def crcBit (c : W16) : W16 := if c.msb then (c <<< 1) ^^^ 0x1021 else c <<< 1

/-- One byte entered into the CRC register, most significant bit first (R2). -/
def crcByte (c : W16) (b : Byte) : W16 :=
  (List.range 8).foldl (fun acc _ => crcBit acc) (c ^^^ (b.zeroExtend 16 <<< 8))

/-- The CRC of a sequence of bytes, the register preset to FFFFh and not inverted (R2). -/
def crc16 (bs : List Byte) : W16 := bs.foldl crcByte 0xFFFF

/-- The header of a cell (Table 1-1); the upper four bits above the length are sent as zero (R20). -/
def Cell.header (c : Cell) : List Byte :=
  c.kind :: beBytes 2 (c.payload.length % 4096) ++ be16 c.tag

/-- The bytes of a cell as a transmitter sends them, header first and CRC last (R2, R9). -/
def Cell.wire (c : Cell) : List Byte :=
  let body := Cell.header c ++ c.payload
  body ++ be16 (crc16 body)

/-! Cell kinds (Table 1-2). -/

def kindFrameOpen : Byte := 0x10
def kindPixelRun : Byte := 0x11
def kindFrameClose : Byte := 0x12
def kindRequest : Byte := 0x20
def kindReply : Byte := 0x30
def kindNotice : Byte := 0x31
def kindForwardedAlert : Byte := 0x3F
def kindTilePixels : Byte := 0x40
def kindTileShow : Byte := 0x41
def kindProbe : Byte := 0x42
def kindSenseRequest : Byte := 0x43
def kindIdent : Byte := 0x50
def kindSenseReply : Byte := 0x51
def kindTileAlert : Byte := 0x5F

/-- The kinds a port takes (the list of R3). -/
def kindTaken (p : Port) (kind : Byte) : Bool :=
  match p with
  | .up _ => kind == kindFrameOpen || kind == kindPixelRun || kind == kindFrameClose || kind == kindRequest
  | .d => kind == kindIdent || kind == kindSenseReply || kind == kindTileAlert

/-- R3: a PIXEL-RUN is malformed by its count, its line or its last column. -/
def runMalformed (line column count : Nat) : Bool :=
  count == 0 || 128 < count || 4095 < line || 4096 < column + count

/-- R3: a cell of a kind its port takes is malformed. -/
def cellMalformed (c : Cell) : Bool :=
  let len := c.payload.length
  if c.kind == kindFrameOpen || c.kind == kindFrameClose then len != 2
  else if c.kind == kindPixelRun then
    let count := field c.payload 4 2
    len != 6 + 6 * count || runMalformed (field c.payload 0 2) (field c.payload 2 2) count
  else if c.kind == kindRequest then len == 0
  else if c.kind == kindIdent then len != 17
  else if c.kind == kindSenseReply then len != 8
  else false

/-- R3: a CRC-good cell that its port discards as foreign or stray. -/
def cellForeign (p : Port) (c : Cell) : Bool := !kindTaken p c.kind || cellMalformed c

/-- R172: the operand lengths of Table 1-3; false for an unknown code. -/
def requestLengthOk (code len : Nat) : Bool :=
  match code with
  | 0x01 => len == 1
  | 0x02 => len == 5
  | 0x03 => len == 1
  | 0x04 => len == 21
  | 0x05 => len == 1
  | 0x06 => len == 2
  | 0x07 => len == 25
  | 0x08 => len == 8
  | 0x09 => len % 2 == 0 && decide (4 ≤ len) && decide (len ≤ 130)
  | 0x0A => len == 0
  | 0x0B => len == 0
  | 0x0C => len == 8
  | 0x0D => len == 11
  | 0x0E => len == 2
  | 0x0F => len == 4
  | 0x10 => len == 0
  | 0x11 => len == 1
  | 0x12 => len == 1
  | 0x13 => len == 1
  | 0x14 => len == 1
  | 0x15 => len == 0
  | 0x16 => len == 2
  | 0x17 => len == 3
  | 0x18 => len == 2
  | 0x19 => len == 1
  | 0x1A => len == 0
  | 0x1B => len == 0
  | _ => false

end Sys2Proof.Machine
end

