-- ==== Sys2Proof/Machine/Tables.lean ====
section
/-! DEFINITION. The settings' ranges and defaults (the table of 10.5) and the causes' numbers and default levels (the
table of R189). -/

namespace Sys2Proof.Machine

/-- The number of a setting, 0 to 16 (10.5). -/
abbrev SettingId := Fin 17

/-- Range and default of a setting. -/
structure SettingRow where
  lo : Int
  hi : Int
  default : Int
deriving DecidableEq, Repr

/-- The table of 10.5. -/
def settingRow (n : SettingId) : SettingRow :=
  match n.val with
  | 0 => ⟨0, 1, 0⟩
  | 1 => ⟨20, 1000, 100⟩
  | 2 => ⟨5, 100, 40⟩
  | 3 => ⟨100, 10000, 2000⟩
  | 4 => ⟨10, 100, 20⟩
  | 5 => ⟨100, 5000, 500⟩
  | 6 => ⟨2, 50, 10⟩
  | 7 => ⟨1, 64, 4⟩
  | 8 => ⟨1, 1024, 64⟩
  | 9 => ⟨0, 255, 16⟩
  | 10 => ⟨0, 65535, 64⟩
  | 11 => ⟨0, 8191, 3584⟩
  | 12 => ⟨-12000, 12000, 6000⟩
  | 13 => ⟨-12000, 12000, 3000⟩
  | 14 => ⟨-12000, 12000, 2500⟩
  | 15 => ⟨0, 1, 1⟩
  | _ => ⟨0, 3, 0⟩

/-- R182: settings 0 and 15 are choices, refused out of range; the others are clamped. -/
def settingIsChoice (n : SettingId) : Bool := n == 0 || n == 15

/-- The sixteen causes (R189). -/
inductive Cause where
  | linkErr
  | sourceSwitch
  | sourceLost
  | frameLate
  | frameSeq
  | frameDrop
  | tileNew
  | tileLost
  | unknownTile
  | misfit
  | pixelLimit
  | levelOver
  | driftRange
  | senseStale
  | loadAbandoned
  | editReleased
deriving DecidableEq, Repr

/-- The number of a cause (R189). -/
def Cause.number : Cause → Fin 16
  | .linkErr => 0
  | .sourceSwitch => 1
  | .sourceLost => 2
  | .frameLate => 3
  | .frameSeq => 4
  | .frameDrop => 5
  | .tileNew => 6
  | .tileLost => 7
  | .unknownTile => 8
  | .misfit => 9
  | .pixelLimit => 10
  | .levelOver => 11
  | .driftRange => 12
  | .senseStale => 13
  | .loadAbandoned => 14
  | .editReleased => 15

/-- The default level of a cause (R189). -/
def causeDefaultLevel (c : Fin 16) : Nat :=
  match c.val with
  | 0 => 1
  | 1 => 2
  | 2 => 3
  | 3 => 1
  | 4 => 1
  | 5 => 1
  | 6 => 1
  | 7 => 2
  | 8 => 2
  | 9 => 2
  | 10 => 1
  | 11 => 2
  | 12 => 1
  | 13 => 1
  | 14 => 1
  | _ => 2

end Sys2Proof.Machine
end

