-- ==== Sys2Proof/Machine/State.lean ====
section
/-! DEFINITION. The state of the part: every piece of state the spec names, block by block, and its reset value. -/

namespace Sys2Proof.Machine

/-! ## The tile link (Chapter 1) -/

/-- The state of an upstream port (1.3). -/
inductive UpState where
  | down
  | aligned
  | up
deriving DecidableEq, Repr

/-- The open frame of a tracker: its number and the time of its FRAME-OPEN (1.3). -/
structure OpenFrame where
  number : W16
  openedAt : Nat
deriving DecidableEq, Repr

/-- What an upstream port keeps (1.3, R10, R14). The oldest cell of `queue` is the one in transmission. -/
structure Upstream where
  state : UpState
  lost : Bool
  goodRun : Nat
  failedRun : Nat
  openFrame : Option OpenFrame
  completeRun : Nat
  lastOpen : Option Nat
  crcFailed : Nat
  foreign : Nat
  unanswered : Nat
  complete : Nat
  queue : List Cell
deriving DecidableEq, Repr

/-- What port D keeps (R8, R10), with the cell its outbound transmitter is sending (R9). -/
structure ChainPort where
  aligned : Bool
  lost : Bool
  goodRun : Nat
  failedRun : Nat
  crcFailed : Nat
  stray : Nat
  dropped : Nat
  tx : Option Cell
deriving DecidableEq, Repr

/-- The source selector (1.6). -/
structure Selector where
  active : Option Up
  toSwitch : Option Up
deriving DecidableEq, Repr

/-! ## Slot plans and the frame store (Chapter 2) -/

/-- The angle a tile is turned, in degrees clockwise (R22). -/
inductive Orientation where
  | deg0
  | deg90
  | deg180
  | deg270
deriving DecidableEq, Repr

/-- The fields of a CANVAS entry (R22). -/
structure CanvasPlan where
  dark : Bool
  line : Nat
  column : Nat
  width : Nat
  height : Nat
  orientation : Orientation
  mirror : Bool
deriving DecidableEq, Repr

/-- A plan entry: its source kind with the fields that kind uses (R22). -/
inductive Plan where
  | none
  | canvas (c : CanvasPlan)
  | mirror (dark : Bool) (target : SlotId)
  | flat (dark : Bool) (colour : Rgb Nat)
  | grid (dark : Bool) (colour : Rgb Nat) (pitch : Nat)
deriving DecidableEq, Repr

/-- A pixel of an image: three channels of 12 bits (R35). -/
abbrev Pixel := Rgb (BitVec 12)

/-- An image: the pixels that are not black, by key 256 * line + column, keys strictly rising (log 18). -/
abbrev Image := List (Nat × Pixel)

/-- The state of the frame receiver (2.6). -/
inductive RxPhase where
  | idle
  | receiving (number : W16) (openedAt : Nat)
deriving DecidableEq, Repr

/-- The frame receiver: its state and the READY mark (2.6). -/
structure Receiver where
  phase : RxPhase
  ready : Bool
deriving DecidableEq, Repr

/-! ## Tiles on the chain (Chapter 4) -/

/-- The presence states (R60). -/
inductive Presence where
  | empty
  | absent
  | matched
  | unknown
  | misfit
deriving DecidableEq, Repr

/-- Tile facts as reported in the IDENT (R60). -/
structure TileFacts where
  serial : W64
  width : W16
  height : W16
  depth : Byte
  hours : BitVec 24
deriving DecidableEq, Repr

/-- A probe-due time: an instant, or one probe interval after the sent time of the last probe (R68, R69). -/
inductive ProbeDue where
  | instant (t : Nat)
  | afterProbe (sent : Nat)
deriving DecidableEq, Repr

/-- One slot of the slot table (4.1, 4.2). -/
structure Tile where
  presence : Presence
  facts : Option TileFacts
  due : Option ProbeDue
deriving DecidableEq, Repr

/-- The two kinds of query (Chapter 4). -/
inductive QueryKind where
  | probe
  | sense
deriving DecidableEq, Repr

/-- Where the cell of the outstanding query stands: handed over but not begun, in transmission, or sent (R62). -/
inductive QueryPhase where
  | waiting
  | sending
  | sent (at_ : Nat)
deriving DecidableEq, Repr

/-- The outstanding query (4.2). -/
structure Query where
  kind : QueryKind
  slot : SlotId
  tag : W16
  phase : QueryPhase
deriving DecidableEq, Repr

/-- The chain query unit, with the drift tracker's choice of slots to sense (4.2, R145 to R148). -/
structure QueryUnit where
  outstanding : Option Query
  tagCounter : W16
  senseList : List SlotId
  pointer : SlotId
  roundDue : Bool
  divider : Nat
deriving DecidableEq, Repr

/-! ## The calibration library (Chapter 5) -/

/-- A record: the words it was loaded with (R80). -/
abbrev Record := List W16

/-- The open load; its pointer is the length of the word buffer (R83). -/
structure Load where
  owner : Up
  identity : W64
  words : List W16
  openedAt : Nat
deriving DecidableEq, Repr

/-! ## Edge bands (Chapter 7) -/

/-- A band entry as stored (R123). -/
structure Band where
  enabled : Bool
  y0 : Byte
  y1 : Byte
  startEdge : W32
  endEdge : W32
  startSlope : W32
  endSlope : W32
  startGain : W16
  endGain : W16
deriving DecidableEq, Repr

/-- The band entry both resets of which are all zero and disabled (R136). -/
def Band.reset : Band := ⟨false, 0, 0, 0, 0, 0, 0, 0, 0⟩

/-! ## Drift tracking (Chapter 8) -/

/-- A reading (R138). -/
structure Reading where
  temperature : Int
  hours : Nat
  stale : Bool
deriving DecidableEq, Repr

/-- A drift record (R138). -/
structure Drift where
  reading : Option Reading
  miss : Nat
  target : Rgb Nat
  applied : Rgb Nat
deriving DecidableEq, Repr

/-- The drift record after a reset (R157, R158). -/
def Drift.reset : Drift := ⟨none, 0, Rgb.all Config.unity, Rgb.all Config.unity⟩

/-! ## The output scan (Chapter 3) -/

/-- The action of a defect entry (Table 1-9). -/
inductive DefectAction where
  | dark
  | neighbour
deriving DecidableEq, Repr

/-- A defect entry (R80). -/
structure Defect where
  line : Nat
  column : Nat
  action : DefectAction
deriving DecidableEq, Repr

/-- The calibration fields a scan reads (R48). -/
structure Calibration where
  black : Rgb Nat
  matrix : Rgb (Rgb Int)
  gains : Rgb Nat
  defects : List Defect
deriving DecidableEq, Repr

/-- The plan fields a scan reads (R48). -/
inductive BoundSource where
  | none
  | canvas
  | mirror (target : SlotId)
  | flat (colour : Rgb Nat)
  | grid (colour : Rgb Nat) (pitch : Nat)
deriving DecidableEq, Repr

/-- Bound native size and driver depth (R48). -/
structure BoundSize where
  width : Nat
  height : Nat
  depth : Nat
deriving DecidableEq, Repr

/-- What only a sent slot gets at binding: calibration copy, band copy and combined gains (R48). -/
structure SentCopy where
  calibration : Calibration
  bands : Table Band 4
  gain : Rgb Nat
deriving DecidableEq, Repr

/-- The binding of one slot (R48). -/
structure BoundSlot where
  presence : Presence
  dark : Bool
  source : BoundSource
  mirrorUsable : Bool
  size : Option BoundSize
  sent : Option SentCopy
deriving DecidableEq, Repr

/-- The run display state (R53). -/
inductive Display where
  | live
  | blanked
deriving DecidableEq, Repr

/-- The scan binding (R48). -/
structure Binding where
  slots : Table BoundSlot 16
  threshold : Nat
  limitThreshold : Nat
  display : Display
  blank : Bool
deriving DecidableEq, Repr

/-- The scan in flight: its binding, running limit counts (R115), the slot and line to form next (slot 16: none is
left), and the formed cells not yet begun (R50). -/
structure Scan where
  binding : Binding
  running : Table Nat 16
  slot : Nat
  line : Nat
  cells : List Cell
deriving DecidableEq, Repr

/-- The scan engine (3.1), with the BLANKn line (R54) and the assertions waiting for a scan end (R45). -/
structure Engine where
  scan : Option Scan
  number : W16
  display : Display
  repeatStart : Option Nat
  holdStart : Nat
  blank : Bool
  deferredBlanks : Nat
deriving DecidableEq, Repr

/-- The limit counts of a slot (3.1). -/
structure LimitCounts where
  last : Nat
  peak : Nat
deriving DecidableEq, Repr

/-! ## The level unit (Chapter 9) -/

/-- The level unit (Chapter 9). -/
structure Level where
  wall : Nat
  headroom : Nat
  effective : Nat
  limiting : Option SlotId
deriving DecidableEq, Repr

/-! ## The request handler (Chapter 10) -/

/-- A RESTART that waits for a scan end (R186). -/
structure RestartWait where
  port : Up
  tag : W16
  scanEnded : Bool
  replyLost : Bool
  blanks : Nat
deriving DecidableEq, Repr

/-! ## The cause unit (Chapter 11) -/

/-- A cause entry (R189). -/
structure CauseEntry where
  pending : Bool
  announced : Bool
  enable : Bool
  level : Nat
  firstSlot : Option SlotId
  count : Nat
deriving DecidableEq, Repr

/-! ## The whole machine -/

/-- The state of the part. -/
structure State where
  /-- commands waiting, first in first out -/
  pending : List Instr
  /-- milliseconds of part time; the 32-bit counter is its low 32 bits (log 1) -/
  clock : Nat
  ua : Upstream
  ub : Upstream
  d : ChainPort
  selector : Selector
  plans : Table Plan 16
  shown : Table Image 16
  incoming : Table Image 16
  receiver : Receiver
  engine : Engine
  counts : Table LimitCounts 16
  tiles : Table Tile 16
  query : QueryUnit
  records : List Record
  load : Option Load
  bands : Table (Table Band 4) 16
  drift : Table Drift 16
  level : Level
  settings : Table Int 17
  flags : Table Bool 16
  holder : Option Up
  restart : Option RestartWait
  waiting : List Instr
  causes : Table CauseEntry 16
  noticePlaced : Bool
deriving DecidableEq, Repr

/-- No command of the part stops it: the spec describes no condition in which the part stops (log 19). -/
inductive Fault where
  /-- Raised by no meaning and no step. Safe. -/
  | never
deriving DecidableEq, Repr

/-- Why a command has no meaning. -/
inductive Refusal where
  /-- Raised by an arm of exec whose command has no meaning yet; no arm is such an arm. Safe. -/
  | notModelled (mnemonic : String)
deriving DecidableEq, Repr

/-- An upstream port after power reset (R18). -/
def Upstream.reset : Upstream :=
  ⟨.down, false, 0, 0, none, 0, none, 0, 0, 0, 0, []⟩

/-- Port D after power reset (R18). -/
def ChainPort.reset : ChainPort := ⟨false, false, 0, 0, 0, 0, 0, none⟩

/-- The scan engine after power reset (R57); the BLANKn line not asserted (log 6). -/
def Engine.reset : Engine := ⟨none, 0, .live, some 0, 0, false, 0⟩

/-- The chain query unit after power reset (R78, R157). -/
def QueryUnit.reset : QueryUnit := ⟨none, 0, [], 0, false, 0⟩

/-- The level unit after power reset (R167). -/
def Level.reset : Level := ⟨Config.unity, Config.unity, Config.unity, none⟩

/-- A cause entry after power reset (R199). -/
def CauseEntry.reset (c : Fin 16) : CauseEntry := ⟨false, false, false, causeDefaultLevel c, none, 0⟩

/-- The machine right after power reset (R18, R43, R57, R78, R99, R121, R136, R157, R167, R188, R199). That no notice has
been placed in the millisecond of the reset is the model's choice (log 27). -/
def State.reset : State where
  pending := []
  clock := 0
  ua := Upstream.reset
  ub := Upstream.reset
  d := ChainPort.reset
  selector := ⟨none, none⟩
  plans := Table.replicate 16 Plan.none
  shown := Table.replicate 16 []
  incoming := Table.replicate 16 []
  receiver := ⟨.idle, false⟩
  engine := Engine.reset
  counts := Table.replicate 16 ⟨0, 0⟩
  tiles := Table.replicate 16 ⟨.empty, none, none⟩
  query := QueryUnit.reset
  records := []
  load := none
  bands := Table.replicate 16 (Table.replicate 4 Band.reset)
  drift := Table.replicate 16 Drift.reset
  level := Level.reset
  settings := Table.tabulate fun n => (settingRow n).default
  flags := Table.replicate 16 false
  holder := none
  restart := none
  waiting := []
  causes := Table.tabulate CauseEntry.reset
  noticePlaced := false

end Sys2Proof.Machine
end

