-- ==== Sys2Proof/Machine/Ops.lean ====
section
/-! DEFINITION. The named reads and updates of State that every block uses, part time, tallies and return queues. -/

namespace Sys2Proof.Machine

/-! ## One update per field -/

def State.withPending (s : State) (x : List Instr) : State := { s with pending := x }
def State.withClock (s : State) (x : Nat) : State := { s with clock := x }
def State.withUa (s : State) (x : Upstream) : State := { s with ua := x }
def State.withUb (s : State) (x : Upstream) : State := { s with ub := x }
def State.withD (s : State) (x : ChainPort) : State := { s with d := x }
def State.withSelector (s : State) (x : Selector) : State := { s with selector := x }
def State.withPlans (s : State) (x : Table Plan 16) : State := { s with plans := x }
def State.withShown (s : State) (x : Table Image 16) : State := { s with shown := x }
def State.withIncoming (s : State) (x : Table Image 16) : State := { s with incoming := x }
def State.withReceiver (s : State) (x : Receiver) : State := { s with receiver := x }
def State.withEngine (s : State) (x : Engine) : State := { s with engine := x }
def State.withCounts (s : State) (x : Table LimitCounts 16) : State := { s with counts := x }
def State.withTiles (s : State) (x : Table Tile 16) : State := { s with tiles := x }
def State.withQuery (s : State) (x : QueryUnit) : State := { s with query := x }
def State.withRecords (s : State) (x : List Record) : State := { s with records := x }
def State.withLoad (s : State) (x : Option Load) : State := { s with load := x }
def State.withBands (s : State) (x : Table (Table Band 4) 16) : State := { s with bands := x }
def State.withDrift (s : State) (x : Table Drift 16) : State := { s with drift := x }
def State.withLevel (s : State) (x : Level) : State := { s with level := x }
def State.withSettings (s : State) (x : Table Int 17) : State := { s with settings := x }
def State.withFlags (s : State) (x : Table Bool 16) : State := { s with flags := x }
def State.withHolder (s : State) (x : Option Up) : State := { s with holder := x }
def State.withRestart (s : State) (x : Option RestartWait) : State := { s with restart := x }
def State.withWaiting (s : State) (x : List Instr) : State := { s with waiting := x }
def State.withCauses (s : State) (x : Table CauseEntry 16) : State := { s with causes := x }
def State.withNoticePlaced (s : State) (x : Bool) : State := { s with noticePlaced := x }

/-! ## Upstream ports -/

/-- What an upstream port keeps. -/
def State.up (s : State) (p : Up) : Upstream :=
  match p with
  | .ua => s.ua
  | .ub => s.ub

/-- The state with an upstream port's record replaced. -/
def State.withUp (s : State) (p : Up) (x : Upstream) : State :=
  match p with
  | .ua => s.withUa x
  | .ub => s.withUb x

/-- The other upstream port. -/
def otherPort : Up → Up
  | .ua => .ub
  | .ub => .ua

/-- Whether an upstream port takes cells, that is, is ALIGNED or UP (R3). -/
def State.takesCells (s : State) (p : Up) : Bool := (s.up p).state != .down

/-- Whether the port's return queue has a free place (R14). -/
def State.hasRoom (s : State) (p : Up) : Bool := (s.up p).queue.length < Config.queuePlaces

/-- A cell placed at the newest end of a port's return queue (1.7). -/
def State.enqueue (s : State) (p : Up) (c : Cell) : State :=
  s.withUp p { s.up p with queue := (s.up p).queue ++ [c] }

/-- A tally counted once: it stops at 65,535 (R10). -/
def tallyUp (n : Nat) : Nat := min Config.tallyMax (n + 1)

/-! ## Time and settings -/

/-- The 32-bit part time counter (00_scope.md 0.6; log 1). -/
def State.partTime (s : State) : W32 := BitVec.ofNat 32 s.clock

/-- Milliseconds elapsed since an event. -/
def State.elapsed (s : State) (t : Nat) : Nat := s.clock - t

/-- The value of a setting (10.5). -/
def State.setting (s : State) (n : SettingId) : Int := s.settings.get n

/-- The value of a setting that is never negative. -/
def State.settingNat (s : State) (n : SettingId) : Nat := (s.setting n).toNat

/-- Whether a limit held in a setting has expired since an event (00_scope.md 0.6). -/
def State.expired (s : State) (n : SettingId) (since : Nat) : Bool := s.settingNat n ≤ s.elapsed since

/-! ## Slots -/

/-- The slot table's entry of a slot. -/
def State.tile (s : State) (k : SlotId) : Tile := s.tiles.get k

/-- The state with a slot's entry of the slot table replaced. -/
def State.withTile (s : State) (k : SlotId) (t : Tile) : State := s.withTiles (s.tiles.set k t)

/-- The state with a slot's drift record replaced. -/
def State.withDriftOf (s : State) (k : SlotId) (x : Drift) : State := s.withDrift (s.drift.set k x)

/-- An operation carried out for every slot in ascending order. -/
def forSlots (f : SlotId → State → State) (s : State) : State :=
  allSlots.foldl (fun acc k => f k acc) s

/-- The identified states (R60). -/
def Presence.identified : Presence → Bool
  | .matched => true
  | .unknown => true
  | .misfit => true
  | .empty => false
  | .absent => false

/-- The states in which a scan bound in them sends the slot (R48, R60). -/
def Presence.isSent : Presence → Bool
  | .matched => true
  | .unknown => true
  | .misfit => false
  | .empty => false
  | .absent => false

/-- A slot number byte as a slot, if it is 0 to 15. -/
def slotOf (b : Byte) : Option SlotId :=
  if h : b.toNat < 16 then some ⟨b.toNat, h⟩ else none

/-- The byte of an optional slot: FFh for none (R20). -/
def slotByte : Option SlotId → Byte
  | some k => byte1 k.val
  | none => 0xFF

/-! ## Rounding (00_scope.md 0.6) -/

/-- Round half up of n / d. -/
def roundHalfUp (n d : Nat) : Nat := (2 * n + d) / (2 * d)

/-- Round half away from zero of n / d. -/
def roundHalfAway (n : Int) (d : Nat) : Int :=
  if n < 0 then -(roundHalfUp n.natAbs d : Int) else (roundHalfUp n.natAbs d : Int)

/-- Clamp to a range. -/
def clampNat (lo hi v : Nat) : Nat := max lo (min hi v)

/-- Clamp to a range of integers. -/
def clampInt (lo hi v : Int) : Int := max lo (min hi v)

end Sys2Proof.Machine
end

