-- ==== Sys2Proof/Machine/Operands.lean ====
section
/-! DEFINITION. The operand and reply layouts: Table 1-4 (outcomes), Table 1-5 (plan entries), Table 1-6 (band entries),
Table 1-7 (slot record), Table 1-8 (port record) and the cause entries of READ-CAUSES. -/

namespace Sys2Proof.Machine

/-- The outcomes (Table 1-4). -/
inductive ReqOutcome where
  | ok
  | okClamped
  | notOwner
  | badRequest
  | badIndex
  | badValue
  | overlap
  | full
  | busy
  | noRecord
  | sequence
  | incomplete
deriving DecidableEq, Repr

/-- The code of an outcome (Table 1-4). -/
def ReqOutcome.code : ReqOutcome → Byte
  | .ok => 0x00
  | .okClamped => 0x01
  | .notOwner => 0x02
  | .badRequest => 0x03
  | .badIndex => 0x04
  | .badValue => 0x05
  | .overlap => 0x06
  | .full => 0x07
  | .busy => 0x08
  | .noRecord => 0x09
  | .sequence => 0x0A
  | .incomplete => 0x0B

/-- What a reply carries after its request code: outcome and reply data (Table 1-2). -/
structure Answer where
  outcome : ReqOutcome
  data : List Byte
deriving DecidableEq, Repr

/-- A refusal without reply data (R21). -/
def Answer.refuse (o : ReqOutcome) : Answer := ⟨o, []⟩

/-- OK with reply data. -/
def Answer.ok (data : List Byte) : Answer := ⟨.ok, data⟩

/-- OK, or OK-CLAMPED where a tuning value was clamped (R173). -/
def Answer.stored (clamped : Bool) (data : List Byte) : Answer :=
  ⟨if clamped then .okClamped else .ok, data⟩

/-- The REPLY cell of a request: the request's tag and code (R9, Table 1-2). -/
def replyCell (tag : W16) (code : Byte) (a : Answer) : Cell :=
  ⟨kindReply, tag, code :: a.outcome.code :: a.data⟩

/-! ## Plan entries (Table 1-5) -/

/-- A flag field: 0 or 1, any other value refused (R20). -/
def flagOf (b : Byte) : Option Bool :=
  if b = 0 then some false else if b = 1 then some true else none

/-- A native size or footprint size: 16 to 256 and a multiple of 8. -/
def sizeOk (n : Nat) : Bool := decide (16 ≤ n) && decide (n ≤ 256) && n % 8 == 0

/-- The orientation field (Table 1-5). -/
def orientationOf (b : Byte) : Option Orientation :=
  match b.toNat with
  | 0 => some .deg0
  | 1 => some .deg90
  | 2 => some .deg180
  | 3 => some .deg270
  | _ => none

/-- The code of an orientation (Table 1-5). -/
def Orientation.code : Orientation → Byte
  | .deg0 => 0
  | .deg90 => 1
  | .deg180 => 2
  | .deg270 => 3

/-- A colour, each channel 0 to 4095 (R22). -/
def colourOf (c : Rgb W16) : Option (Rgb Nat) :=
  if c.r.toNat ≤ 4095 && c.g.toNat ≤ 4095 && c.b.toNat ≤ 4095 then some (c.map BitVec.toNat) else none

/-- Check 2 of R25: source kind 0 to 4 and every field the kind uses in its range (R22). Unused fields are ignored. -/
def decodePlan (e : RawPlan) : Option Plan :=
  match e.kind.toNat with
  | 0 => some .none
  | 1 => do
      let dark ← flagOf e.dark
      let mirror ← flagOf e.mirror
      let orientation ← orientationOf e.orientation
      if decide (e.line.toNat ≤ 4095) && decide (e.column.toNat ≤ 4095) && sizeOk e.width.toNat && sizeOk e.height.toNat then
        some (.canvas ⟨dark, e.line.toNat, e.column.toNat, e.width.toNat, e.height.toNat, orientation, mirror⟩)
      else none
  | 2 => do
      let dark ← flagOf e.dark
      let target ← slotOf e.target
      some (.mirror dark target)
  | 3 => do
      let dark ← flagOf e.dark
      let colour ← colourOf e.colour
      some (.flat dark colour)
  | 4 => do
      let dark ← flagOf e.dark
      let colour ← colourOf e.colour
      if decide (8 ≤ e.pitch.toNat) && decide (e.pitch.toNat ≤ 64) then some (.grid dark colour e.pitch.toNat) else none
  | _ => none

/-- A plan entry with every field zero. -/
def RawPlan.zero : RawPlan := ⟨0, 0, 0, 0, 0, 0, 0, 0, 0, 0, ⟨0, 0, 0⟩⟩

/-- A colour as carried. -/
def colourWords (c : Rgb Nat) : Rgb W16 := c.map (BitVec.ofNat 16)

/-- The entry a stored plan reads back as, unused fields zero (R22, R23). -/
def Plan.raw : Plan → RawPlan
  | .none => RawPlan.zero
  | .canvas c =>
      { RawPlan.zero with
        kind := 1, dark := flagByte c.dark, line := BitVec.ofNat 16 c.line, column := BitVec.ofNat 16 c.column,
        width := BitVec.ofNat 16 c.width, height := BitVec.ofNat 16 c.height, orientation := c.orientation.code,
        mirror := flagByte c.mirror }
  | .mirror dark target => { RawPlan.zero with kind := 2, dark := flagByte dark, target := byte1 target.val }
  | .flat dark colour => { RawPlan.zero with kind := 3, dark := flagByte dark, colour := colourWords colour }
  | .grid dark colour pitch =>
      { RawPlan.zero with kind := 4, dark := flagByte dark, colour := colourWords colour, pitch := byte1 pitch }

/-- The 20 bytes of a plan entry (Table 1-5). -/
def RawPlan.bytes (e : RawPlan) : List Byte :=
  [e.kind, e.dark] ++ be16 e.line ++ be16 e.column ++ be16 e.width ++ be16 e.height ++
  [e.orientation, e.mirror, e.target, e.pitch] ++ be16 e.colour.r ++ be16 e.colour.g ++ be16 e.colour.b

/-- The bytes a stored plan reads back as. -/
def Plan.bytes (p : Plan) : List Byte := RawPlan.bytes p.raw

/-! ## Band entries (Table 1-6) -/

/-- A gain clamped to 2048 to 6144, read as unsigned (R127). -/
def clampGain (g : W16) : W16 := BitVec.ofNat 16 (clampNat Config.bandMin Config.bandMax g.toNat)

/-- Checks 3 and 4 of R126 and the clamp of R127: the entry as stored. -/
def decodeBand (e : RawBand) : Option Band := do
  let enabled ← flagOf e.enabled
  if e.y0 ≤ e.y1 then
    some ⟨enabled, e.y0, e.y1, e.startEdge, e.endEdge, e.startSlope, e.endSlope, clampGain e.startGain, clampGain e.endGain⟩
  else none

/-- The 23 bytes of a stored band entry (Table 1-6). -/
def Band.bytes (b : Band) : List Byte :=
  [flagByte b.enabled, b.y0, b.y1] ++ beBytes 4 b.startEdge.toNat ++ beBytes 4 b.endEdge.toNat ++
  beBytes 4 b.startSlope.toNat ++ beBytes 4 b.endSlope.toNat ++ be16 b.startGain ++ be16 b.endGain

/-! ## The slot record (Table 1-7) -/

/-- The code of a presence state (Table 1-7). -/
def Presence.code : Presence → Byte
  | .empty => 0
  | .absent => 1
  | .matched => 2
  | .unknown => 3
  | .misfit => 4

/-- Bytes 2 to 18: tile facts, all zero when absent (R184). -/
def factsBytes : Option TileFacts → List Byte
  | none => List.replicate 17 0
  | some f =>
      1 :: beBytes 8 f.serial.toNat ++ be16 f.width ++ be16 f.height ++ [f.depth] ++ beBytes 3 f.hours.toNat

/-- Bytes 19 to 25: the reading, all zero when absent (R184). -/
def readingBytes : Option Reading → List Byte
  | none => List.replicate 7 0
  | some r => [1, flagByte r.stale] ++ be16 (BitVec.ofInt 16 r.temperature) ++ beBytes 3 r.hours

/-- The 55 bytes of the slot record (Table 1-7). -/
def slotRecord (s : State) (k : SlotId) : List Byte :=
  let d := s.drift.get k
  let c := s.counts.get k
  [byte1 k.val, (s.tile k).presence.code] ++ factsBytes (s.tile k).facts ++ readingBytes d.reading ++ [byte1 d.miss] ++
  (d.target.toList ++ d.applied.toList).flatMap (beBytes 4) ++ beBytes 2 c.last ++ beBytes 2 c.peak

/-! ## The port record (Table 1-8) -/

/-- The code of an upstream port's state (Table 1-8). -/
def UpState.code : UpState → Byte
  | .down => 0
  | .aligned => 1
  | .up => 2

/-- The four tallies of an upstream port (Table 1-8). -/
def tallyBytes (u : Upstream) : List Byte :=
  beBytes 2 u.crcFailed ++ beBytes 2 u.foreign ++ beBytes 2 u.unanswered ++ beBytes 2 u.complete

/-- The 30 bytes of the port record (Table 1-8). -/
def portRecord (s : State) : List Byte :=
  [s.ua.state.code, s.ub.state.code, flagByte s.d.aligned,
   match s.selector.active with
   | none => 0
   | some .ua => 1
   | some .ub => 2] ++
  beBytes 4 s.partTime.toNat ++ tallyBytes s.ua ++ tallyBytes s.ub ++
  beBytes 2 s.d.crcFailed ++ beBytes 2 s.d.stray ++ beBytes 2 s.d.dropped

/-! ## Cause entries (Table 1-3, READ-CAUSES) -/

/-- The six bytes of a cause entry. -/
def CauseEntry.bytes (e : CauseEntry) : List Byte :=
  [flagByte e.pending, flagByte e.announced, flagByte e.enable, byte1 e.level, slotByte e.firstSlot, byte1 e.count]

/-- The sixteen cause entries, cause 0 first (R197). -/
def causeTable (s : State) : List Byte := s.causes.entries.flatMap CauseEntry.bytes

/-! ## The NOTICE cell (Table 1-2) -/

/-- The notice of a cause (R16, R193). -/
def noticeCell (s : State) (c : Fin 16) : Cell :=
  let e := s.causes.get c
  ⟨kindNotice, 0, [byte1 c.val, byte1 e.level, slotByte e.firstSlot, byte1 e.count] ++ beBytes 2 s.partTime.toNat⟩

end Sys2Proof.Machine
end

