-- ==== Sys2Proof/Machine/FrameStore.lean ====
section
/-! DEFINITION. Slot plans and images: footprints, implied sizes, the mapping from canvas to native coordinates and the
reading and writing of one pixel (Chapter 2). -/

namespace Sys2Proof.Machine

/-! ## Images -/

/-- A pixel whose three channels are 0. -/
def blackPixel : Pixel := ⟨0, 0, 0⟩

/-- The key of a native pixel; lines and columns are below 256. -/
def pixelKey (x y : Nat) : Nat := 256 * y + x

/-- The pixel stored under a key; an unlisted pixel is black. -/
def Image.pixel : Image → Nat → Pixel
  | [], _ => blackPixel
  | (k, p) :: rest, key => if key = k then p else Image.pixel rest key

/-- One pixel written, keeping the form: keys strictly rising and no black pixel listed. -/
def Image.write : Image → Nat → Pixel → Image
  | [], key, p => if p = blackPixel then [] else [(key, p)]
  | (k, q) :: rest, key, p =>
      if key < k then (if p = blackPixel then (k, q) :: rest else (key, p) :: (k, q) :: rest)
      else if key = k then (if p = blackPixel then rest else (key, p) :: rest)
      else (k, q) :: Image.write rest key p

/-- Every key of the list is above `key`. -/
def Image.above (key : Nat) (img : Image) : Bool := img.all fun e => decide (key < e.1)

/-- The canonical form of an image: keys strictly rising, no black pixel listed. -/
def Image.wf : Image → Bool
  | [] => true
  | (k, p) :: rest => decide (p ≠ blackPixel) && Image.above k rest && Image.wf rest

/-! ## Plans -/

/-- Whether an entry is of kind CANVAS. -/
def Plan.isCanvas : Plan → Bool
  | .canvas _ => true
  | .none => false
  | .mirror _ _ => false
  | .flat _ _ => false
  | .grid _ _ _ => false

/-- The dark flag of an entry; that of a NONE entry is off (R22). -/
def Plan.dark : Plan → Bool
  | .canvas c => c.dark
  | .none => false
  | .mirror d _ => d
  | .flat d _ => d
  | .grid d _ _ => d

/-- The implied native size of a CANVAS entry: width, height (R24). -/
def CanvasPlan.implied (c : CanvasPlan) : Nat × Nat :=
  match c.orientation with
  | .deg0 => (c.width, c.height)
  | .deg180 => (c.width, c.height)
  | .deg90 => (c.height, c.width)
  | .deg270 => (c.height, c.width)

/-- The area a plan entry takes of the frame store (R22). -/
def Plan.area : Plan → Nat
  | .canvas c => c.width * c.height
  | .none => 0
  | .mirror _ _ => 0
  | .flat _ _ => 0
  | .grid _ _ _ => 0

/-- R26: two ranges of canvas lines or columns have one in common. -/
def rangesMeet (a la b lb : Nat) : Bool := decide (a < b + lb) && decide (b < a + la)

/-- R26: two plan entries are CANVAS and their footprints share a canvas pixel. -/
def Plan.overlaps : Plan → Plan → Bool
  | .canvas a, .canvas b => rangesMeet a.line a.height b.line b.height && rangesMeet a.column a.width b.column b.width
  | _, _ => false

/-- The total CANVAS area of a plan table (R26). -/
def totalArea (plans : Table Plan 16) : Nat := (plans.entries.map Plan.area).sum

/-- Check 5 of R25: the entry overlaps the footprint of another slot. -/
def overlapsOthers (plans : Table Plan 16) (k : SlotId) (p : Plan) : Bool :=
  allSlots.any fun j => decide (j ≠ k) && p.overlaps (plans.get j)

/-- R27: no two CANVAS footprints overlap and the total area is within the frame store. -/
def plansLawful (plans : Table Plan 16) : Bool :=
  (allSlots.all fun k => !overlapsOthers plans k (plans.get k)) && decide (totalArea plans ≤ Config.canvasArea)

/-- R29: what changes the geometry of a slot, given its old and new entries. -/
def geometryChanged (old new : Plan) : Bool :=
  match old, new with
  | .canvas a, .canvas b =>
      decide (a.line ≠ b.line) || decide (a.column ≠ b.column) || decide (a.width ≠ b.width) ||
      decide (a.height ≠ b.height) || decide (a.orientation ≠ b.orientation) || (a.mirror != b.mirror)
  | .canvas _, _ => true
  | _, .canvas _ => true
  | _, _ => false

/-! ## From canvas to native coordinates (R33) -/

/-- The native column and line of a footprint offset (u, v), the mirror already applied (R33, step 3). -/
def CanvasPlan.orient (c : CanvasPlan) (u v : Nat) : Nat × Nat :=
  let (w, h) := c.implied
  match c.orientation with
  | .deg0 => (u, v)
  | .deg90 => (v, h - 1 - u)
  | .deg180 => (w - 1 - u, h - 1 - v)
  | .deg270 => (w - 1 - v, u)

/-- The native column and line of a canvas pixel, if it lies inside the footprint (R33). -/
def CanvasPlan.native (c : CanvasPlan) (line column : Nat) : Option (Nat × Nat) :=
  if decide (c.line ≤ line) && decide (line < c.line + c.height) && decide (c.column ≤ column) &&
      decide (column < c.column + c.width) then
    let u := column - c.column
    let u := if c.mirror then c.width - 1 - u else u
    some (c.orient u (line - c.line))
  else none

/-- The three channels of a carried pixel: the lower 12 bits of each (R20, R34). -/
def RawPixel.value (p : RawPixel) : Pixel := p.map (BitVec.setWidth 12)

/-- R34: the pixels of a run that lie in one slot's footprint, written into that slot's incoming image in the order
sent. -/
def placeRun (plan : Plan) (line column : Nat) (pixels : List RawPixel) (img : Image) : Image :=
  match plan with
  | .canvas c =>
      (pixels.foldl (fun (acc : Image × Nat) p =>
        match c.native line acc.2 with
        | some (x, y) => (Image.write acc.1 (pixelKey x y) (RawPixel.value p), acc.2 + 1)
        | none => (acc.1, acc.2 + 1)) (img, column)).1
  | _ => img

/-- The shown pixel of a slot at native (x, y): black outside the image's present implied size, and where the slot has no
image (R32, R51). -/
def shownPixel (s : State) (k : SlotId) (x y : Nat) : Rgb Nat :=
  match s.plans.get k with
  | .canvas c =>
      if x < c.implied.1 ∧ y < c.implied.2 then
        (Image.pixel (s.shown.get k) (pixelKey x y)).map BitVec.toNat
      else Rgb.all 0
  | _ => Rgb.all 0

end Sys2Proof.Machine
end

