-- ==== Sys2Proof/Machine/Pixel.lean ====
section
/-! DEFINITION. The band factor of a pixel (Chapter 7) and the correction arithmetic, given to the last rounding
(Chapter 6). Pure functions of the bound copies. -/

namespace Sys2Proof.Machine

/-! ## Edge bands -/

/-- An enabled band on one of its lines: start and end column, unclipped, and the two gains (R129, R130). -/
structure BandLine where
  first : Int
  last : Int
  startGain : Int
  endGain : Int
deriving DecidableEq, Repr

/-- R129, R130: the columns of an entry on line `y`, if the entry is enabled and the line lies within Y0 to Y1. The
edges are formed exactly and floored to whole columns. -/
def Band.onLine (b : Band) (y : Nat) : Option BandLine :=
  if b.enabled && decide (b.y0.toNat ≤ y) && decide (y ≤ b.y1.toNat) then
    let n : Int := (y : Int) - b.y0.toNat
    some ⟨(b.startEdge.toInt + n * b.startSlope.toInt) / 65536, (b.endEdge.toInt + n * b.endSlope.toInt) / 65536,
      b.startGain.toNat, b.endGain.toNat⟩
  else none

/-- R130: the column is covered on this line, within the bound width. -/
def BandLine.covers (l : BandLine) (w x : Nat) : Bool :=
  decide (max l.first 0 ≤ (x : Int)) && decide ((x : Int) < min l.last w)

/-- R131: the ramp factor at a covered column, the division truncated toward zero. -/
def BandLine.ramp (l : BandLine) (x : Nat) : Nat :=
  (l.startGain + Int.tdiv ((l.endGain - l.startGain) * ((x : Int) - l.first)) (l.last - l.first)).toNat

/-- R132: a further covering entry's ramp factor entered into the running factor. -/
def combineFactor (running ramp : Nat) : Nat :=
  clampNat Config.bandMin Config.bandMax (roundHalfUp (running * ramp) 4096)

/-- The running factor after one more entry in ascending band index (R132). -/
def bandStep (w x : Nat) (running : Option Nat) (l : BandLine) : Option Nat :=
  if l.covers w x then
    match running with
    | none => some (l.ramp x)
    | some r => some (combineFactor r (l.ramp x))
  else running

/-- R132: the band factor of a pixel from the lines of its slot's entries; 4096 where no entry covers it. -/
def bandFactor (lines : List BandLine) (w x : Nat) : Nat :=
  (lines.foldl (bandStep w x) none).getD Config.bandUnity

/-- The entries of a slot that are enabled and reach line `y`, in ascending band index (R133). -/
def bandLines (bands : Table Band 4) (y : Nat) : List BandLine :=
  bands.entries.filterMap fun b => b.onLine y

/-! ## The correction pipeline -/

/-- R104: step 1, the black offset; a negative difference is 0. -/
def blackOffset (input offset : Rgb Nat) : Rgb Nat := input.zip (· - ·) offset

/-- The largest of the three channels (R105). -/
def largest (x : Rgb Nat) : Nat := max x.r (max x.g x.b)

/-- R107, R108: one channel of step 3, the exact sum, rounded half away from zero and floor-clipped at 0. -/
def matrixChannel (row : Rgb Int) (x : Rgb Nat) : Nat :=
  (roundHalfAway (row.r * x.r + row.g * x.g + row.b * x.b) 4096).toNat

/-- R105: steps 2 and 3, the low-level test and the matrix. -/
def mixChannels (matrix : Rgb (Rgb Int)) (threshold : Nat) (x : Rgb Nat) : Rgb Nat :=
  if largest x ≤ threshold then x else matrix.map fun row => matrixChannel row x

/-- R112: one channel of step 6, one rounding after the exact product. -/
def scaleOutput (m k beta depth : Nat) : Nat := roundHalfUp (m * k * beta) (2 ^ (40 - depth))

/-- The largest value a driver depth can send (R114). -/
def fullScale (depth : Nat) : Nat := 2 ^ depth - 1

/-- Steps 1 to 6 of one pixel (R104 to R112). -/
def scaledPixel (c : Calibration) (gain : Rgb Nat) (threshold depth beta : Nat) (input : Rgb Nat) : Rgb Nat :=
  (mixChannels c.matrix threshold (blackOffset input c.black)).zip (fun m k => scaleOutput m k beta depth) gain

/-- R114: step 7, the clamp to the driver depth. -/
def saturate (depth : Nat) (out : Rgb Nat) : Rgb Nat := out.map (min (fullScale depth))

/-- R114: the top clamps of a pixel, zero to three. -/
def topClamps (depth : Nat) (out : Rgb Nat) : Nat :=
  (out.toList.filter fun v => decide (fullScale depth < v)).length

/-- R109: the combined gain of one channel. -/
def combinedGain (u a l : Nat) : Nat := roundHalfUp (u * a * l) (2 ^ 28)

/-- Steps 1 to 6 of every pixel of line `y` (R103). -/
def scaledLine (c : SentCopy) (threshold w depth y : Nat) (input : Nat → Rgb Nat) : List (Rgb Nat) :=
  let lines := bandLines c.bands y
  (List.range w).map fun x =>
    scaledPixel c.calibration c.gain threshold depth (bandFactor lines w x) (input x)

/-- R117, R118: step 8 on a line, from the step-7 values of the whole line. -/
def substitute (defects : List Defect) (y : Nat) (values : List (Rgb Nat)) : List (Rgb Nat) :=
  let here := defects.filter fun d => d.line == y
  ((List.range values.length).zip values).map fun (x, v) =>
    match here.find? fun d => d.column == x with
    | none => v
    | some d =>
        match d.action with
        | .dark => Rgb.all 0
        | .neighbour => values.getD (if x = 0 then 1 else x - 1) v

/-- R120: a black override holds for the slot. -/
def overridden (b : Binding) (k : BoundSlot) : Bool :=
  k.dark || decide (b.display = .blanked) || b.blank

/-- Steps 7 to 9 of a line: the values sent and the top clamps counted (R114, R115, R117, R120). -/
def finishLine (black : Bool) (c : SentCopy) (depth y : Nat) (scaled : List (Rgb Nat)) : List (Rgb Nat) × Nat :=
  if black then (scaled.map fun _ => Rgb.all 0, 0)
  else (substitute c.calibration.defects y (scaled.map (saturate depth)), (scaled.map (topClamps depth)).sum)

end Sys2Proof.Machine
end

