-- ==== Sys2Proof/Machine/Calibration.lean ====
section
/-! DEFINITION. The fields of a library record (Table 1-9), the fallback record (R98) and which of the two a slot uses. -/

namespace Sys2Proof.Machine

/-- A word of a record. -/
def recWord (r : Record) (i : Nat) : W16 := r.getD i 0

/-- A word as a number. -/
def recNat (r : Record) (i : Nat) : Nat := (recWord r i).toNat

/-- A word read as signed. -/
def recInt (r : Record) (i : Nat) : Int := (recWord r i).toInt

/-- Three words from offset `i`. -/
def recRgb (r : Record) (i : Nat) : Rgb Nat := ⟨recNat r i, recNat r (i + 1), recNat r (i + 2)⟩

/-- Three signed words from offset `i`. -/
def recRgbInt (r : Record) (i : Nat) : Rgb Int := ⟨recInt r i, recInt r (i + 1), recInt r (i + 2)⟩

/-- The identity of a record: words 0 to 3, most significant first. -/
def recIdentity (r : Record) : W64 :=
  recWord r 0 ++ recWord r 1 ++ recWord r 2 ++ recWord r 3

/-- The native width of a record. -/
def recWidth (r : Record) : Nat := recNat r 4
/-- The native height of a record. -/
def recHeight (r : Record) : Nat := recNat r 5
/-- The defect count of a record. -/
def recDefects (r : Record) : Nat := recNat r 30

/-- Defect `i` of a record. -/
def recDefect (r : Record) (i : Nat) : Defect :=
  ⟨recNat r (31 + 3 * i), recNat r (32 + 3 * i), if recNat r (33 + 3 * i) = 1 then .dark else .neighbour⟩

/-- The calibration fields a scan copies from a record (R48). -/
def recCalibration (r : Record) : Calibration :=
  ⟨recRgb r 6, ⟨recRgbInt r 9, recRgbInt r 12, recRgbInt r 15⟩, recRgb r 18,
   (List.range (recDefects r)).map (recDefect r)⟩

/-- The calibration fields of the fallback record with the fallback gain `g` (R98). -/
def fallbackCalibration (g : Nat) : Calibration :=
  ⟨Rgb.all 0, ⟨⟨4096, 0, 0⟩, ⟨0, 4096, 0⟩, ⟨0, 0, 4096⟩⟩, Rgb.all g, []⟩

/-- What target computation reads of a calibration (R139). -/
structure DriftCoefficients where
  reference : Int
  temperature : Rgb Int
  hours : Nat
  age : Rgb Nat
deriving DecidableEq, Repr

/-- The coefficients of a record (R139). -/
def recCoefficients (r : Record) : DriftCoefficients :=
  ⟨recInt r 21, recRgbInt r 22, recNat r 25 * 65536 + recNat r 26, recRgb r 27⟩

/-- The coefficients of the fallback record (R98, R139). -/
def fallbackCoefficients (s : State) : DriftCoefficients :=
  ⟨100, ⟨s.setting 12, s.setting 13, s.setting 14⟩, 0, Rgb.all 0⟩

/-- The record held with an identity (R81: at most one). -/
def findRecord (records : List Record) (id : W64) : Option Record :=
  records.find? fun r => recIdentity r == id

/-- R97: the library holds a record with a tile's serial and native size. -/
def libraryMatches (records : List Record) (f : TileFacts) : Bool :=
  match findRecord records f.serial with
  | some r => decide (recWidth r = f.width.toNat) && decide (recHeight r = f.height.toNat)
  | none => false

/-- The record a MATCHED slot is bound to (R61). -/
def boundRecord (s : State) (k : SlotId) : Option Record :=
  match (s.tile k).presence, (s.tile k).facts with
  | .matched, some f => findRecord s.records f.serial
  | _, _ => none

/-- The calibration a slot is corrected with: its bound record's, else the fallback record's (R48, R98). -/
def slotCalibration (s : State) (k : SlotId) : Calibration :=
  match boundRecord s k with
  | some r => recCalibration r
  | none => fallbackCalibration (s.settingNat 11)

/-- The coefficients a slot's targets are computed from (R139). -/
def slotCoefficients (s : State) (k : SlotId) : DriftCoefficients :=
  match boundRecord s k with
  | some r => recCoefficients r
  | none => fallbackCoefficients s

end Sys2Proof.Machine
end

