-- ==== Sys2Proof/Machine/Flags.lean ====
section
/-! DEFINITION. The flag computations: the cause entries and what follows from them (11), and the sixteen flags of the
request handler (10.3, 10.4). -/

namespace Sys2Proof.Machine

/-- The entry of a cause after a raise (R190). -/
def CauseEntry.raised (e : CauseEntry) (slot : Option SlotId) : CauseEntry :=
  if e.pending then { e with count := min Config.countMax (e.count + 1) }
  else { e with pending := true, firstSlot := slot, count := 1 }

/-- R190: a raise of a cause with a slot or with none. -/
def raise (c : Cause) (slot : Option SlotId) (s : State) : State :=
  s.withCauses (s.causes.set c.number ((s.causes.get c.number).raised slot))

/-- The entry of a cause after a clear: enable and level are kept (R195, R200). -/
def CauseEntry.cleared (e : CauseEntry) : CauseEntry :=
  { e with pending := false, announced := false, firstSlot := none, count := 0 }

/-- R191: a notice is due for a cause. -/
def causeDue (s : State) (c : Fin 16) : Bool :=
  let e := s.causes.get c
  e.pending && e.enable && !e.announced && decide (s.setting 16 < (e.level : Int))

/-- The cause an offer chooses: the highest level, then the lowest number (R192). -/
def chosenCause (s : State) : Option (Fin 16) :=
  allSlots.foldl (fun best c =>
    if causeDue s c then
      match best with
      | none => some c
      | some b => if (s.causes.get b).level < (s.causes.get c).level then some c else some b
    else best) none

/-- R198: the FAULTn line is asserted, pulled low. -/
def State.faultAsserted (s : State) : Bool :=
  allSlots.any fun c =>
    let e := s.causes.get c
    e.pending && e.enable && e.level == 3

/-- R174: an edit from this port meets a flag 0 that the other port holds. -/
def editRefused (s : State) (p : Up) : Bool := s.flags.get 0 && decide (s.holder ≠ some p)

/-- R175: flag 0 set by a port. -/
def takeEditFlag (p : Up) (s : State) : State :=
  (s.withFlags (s.flags.set 0 true)).withHolder (some p)

/-- R176: flag 0 cleared. -/
def dropEditFlag (s : State) : State :=
  (s.withFlags (s.flags.set 0 false)).withHolder none

/-- R178: the holder's entry to DOWN clears the edit flag and raises EDIT-RELEASED. -/
def releaseEditFlag (p : Up) (s : State) : State :=
  if s.holder = some p then raise .editReleased none (dropEditFlag s) else s

/-- The holder code of a flag reply (R180): 0 none, 1 UA, 2 UB. -/
def holderByte : Option Up → Byte
  | none => 0
  | some .ua => 1
  | some .ub => 2

end Sys2Proof.Machine
end

