-- ==== Sys2Proof/Machine/Drift.lean ====
section
/-! DEFINITION. The drift tracker: targets, readings, misses and the slew (Chapter 8). -/

namespace Sys2Proof.Machine

/-- The current hours of a slot: the reading's, or those of its tile facts (R138). -/
def currentHours (d : Drift) (facts : Option TileFacts) : Nat :=
  match d.reading with
  | some r => r.hours
  | none =>
      match facts with
      | some f => f.hours.toNat
      | none => 0

/-- R139: X_c, formed exactly. -/
def driftX (kT dT : Int) (kA dA : Nat) : Int := 25 * kT * dT + (kA * dA : Nat)

/-- R139: the target of one channel before the clamp. -/
def rawTarget (x : Int) : Int := Config.unity + roundHalfAway (65536 * x) 100000000

/-- R140: the clamp to 49,152 to 98,304. -/
def clampTarget (v : Int) : Nat := (clampInt Config.driftMin Config.driftMax v).toNat

/-- The three targets before the clamp, from coefficients, reading and current hours (R139). -/
def rawTargets (c : DriftCoefficients) (reading : Option Reading) (hours : Nat) : Rgb Int :=
  let dT : Int :=
    match reading with
    | some r => r.temperature - c.reference
    | none => 0
  c.temperature.zip (fun kT kA => rawTarget (driftX kT dT kA (hours - c.hours))) c.age

/-- R140: some channel of a computation is clamped. -/
def targetsClamped (t : Rgb Int) : Bool :=
  t.toList.any fun v => decide (v < Config.driftMin) || decide ((Config.driftMax : Int) < v)

/-- The three targets a slot's reading, hours and calibration call for, before the clamp (R139). -/
def slotRawTargets (s : State) (k : SlotId) : Rgb Int :=
  rawTargets (slotCoefficients s k) (s.drift.get k).reading (currentHours (s.drift.get k) (s.tile k).facts)

/-- R141: the targets of a slot computed afresh, with DRIFT-RANGE raised once if a channel is clamped. A slot that is
neither MATCHED nor UNKNOWN keeps its targets. -/
def computeTargets (k : SlotId) (s : State) : State :=
  if (s.tile k).presence.isSent then
    let t := slotRawTargets s k
    let s1 := s.withDriftOf k { s.drift.get k with target := t.map clampTarget }
    if targetsClamped t then raise .driftRange (some k) s1 else s1
  else s

/-- R143: the drift record initialised at identification, after the slot's facts and state are set. -/
def initialiseDrift (k : SlotId) (s : State) : State :=
  let s1 := s.withDriftOf k { s.drift.get k with reading := none, miss := 0 }
  let s2 :=
    if (s1.tile k).presence.isSent then computeTargets k s1
    else s1.withDriftOf k { s1.drift.get k with target := Rgb.all Config.unity }
  s2.withDriftOf k { s2.drift.get k with applied := (s2.drift.get k).target }

/-- R149: the temperature of a reading, clamped to -160 to 500. -/
def clampTemperature (t : Int) : Int := clampInt (-160) 500 t

/-- R149, R150, R151: a good reading stored. -/
def storeReading (k : SlotId) (temperature : Int) (hours : Nat) (s : State) : State :=
  let s1 := if clampTemperature temperature ≠ temperature then raise .driftRange (some k) s else s
  let d := s1.drift.get k
  let held := currentHours d (s1.tile k).facts
  let s2 := s1.withDriftOf k
    { d with reading := some ⟨clampTemperature temperature, max hours held, false⟩, miss := 0 }
  computeTargets k s2

/-- R152: a miss recorded: the count rises, the reading is stale, SENSE-STALE is raised. -/
def recordMiss (k : SlotId) (s : State) : State :=
  let d := s.drift.get k
  raise .senseStale (some k)
    (s.withDriftOf k
      { d with miss := min Config.maxMisses (d.miss + 1), reading := d.reading.map fun r => { r with stale := true } })

/-- R154: one channel moved toward its target by at most the slew step. -/
def slewChannel (step a t : Nat) : Nat :=
  if a ≤ t then (if t - a ≤ step then t else a + step) else (if a - t ≤ step then t else a - step)

/-- R154: the slew of one slot's record. -/
def Drift.slewed (step : Nat) (d : Drift) : Drift :=
  { d with applied := d.applied.zip (slewChannel step) d.target }

/-- R154: stage 2 of a scan start: every identified slot slewed by setting 8. -/
def slewAll (s : State) : State :=
  forSlots (fun k acc =>
    if (acc.tile k).presence.identified then
      acc.withDriftOf k ((acc.drift.get k).slewed (acc.settingNat 8))
    else acc) s

end Sys2Proof.Machine
end

