-- ==== Sys2Proof/Machine/Presence.lean ====
section
/-! DEFINITION. The slot table and the chain query unit: presence, identification, loss, library changes and the choice of
the next query (Chapter 4). -/

namespace Sys2Proof.Machine

/-! ## Tests of identification -/

/-- R60: a tile is supported. -/
def supported (f : TileFacts) : Bool :=
  sizeOk f.width.toNat && sizeOk f.height.toNat &&
  (f.depth.toNat == 12 || f.depth.toNat == 14 || f.depth.toNat == 16)

/-- R24: a tile is consistent with its slot's plan. -/
def consistent (p : Plan) (f : TileFacts) : Bool :=
  match p with
  | .canvas c => decide (c.implied = (f.width.toNat, f.height.toNat))
  | _ => true

/-- R70, steps 2 to 4, and R30: the identified state a tile gives under a plan and a library. -/
def identifyAs (p : Plan) (records : List Record) (f : TileFacts) : Presence :=
  if !supported f || !consistent p f then .misfit
  else if libraryMatches records f then .matched
  else .unknown

/-- The cause of entering an identified state: MISFIT, UNKNOWN-TILE, none for MATCHED (R30, R70). -/
def raiseEntered (p : Presence) (k : SlotId) (s : State) : State :=
  match p with
  | .misfit => raise .misfit (some k) s
  | .unknown => raise .unknownTile (some k) s
  | .matched => s
  | .empty => s
  | .absent => s

/-! ## Leaving the identified states -/

/-- R67: an outstanding query of a kind for a slot is withdrawn. Its cell, if not begun, leaves the transmitter with it. -/
def withdrawQuery (kind : QueryKind) (k : SlotId) (s : State) : State :=
  match s.query.outstanding with
  | some q => if q.kind = kind ∧ q.slot = k then s.withQuery { s.query with outstanding := none } else s
  | none => s

/-- R148: a slot leaves the priority sense list, which closes up. -/
def leaveSenseList (k : SlotId) (s : State) : State :=
  s.withQuery { s.query with senseList := s.query.senseList.filter fun j => decide (j ≠ k) }

/-- R71: a slot enters ABSENT from an identified state: facts and binding end, the list closes up, an outstanding sense
is withdrawn, and a probe becomes due at once. No cause is raised here. -/
def loseIdentity (k : SlotId) (s : State) : State :=
  withdrawQuery .sense k (leaveSenseList k (s.withTile k ⟨.absent, none, some (.instant s.clock)⟩))

/-- R30, R67, R71: a slot becomes EMPTY. -/
def becomeEmpty (k : SlotId) (s : State) : State :=
  withdrawQuery .probe k (withdrawQuery .sense k (leaveSenseList k (s.withTile k ⟨.empty, none, none⟩)))

/-- R30, R68: an EMPTY slot becomes ABSENT with a probe due at once. -/
def becomeAbsent (k : SlotId) (s : State) : State :=
  s.withTile k ⟨.absent, none, some (.instant s.clock)⟩

/-- R72, R73, R74: a tile is lost, with TILE-LOST raised for the slot. -/
def loseTile (k : SlotId) (s : State) : State := raise .tileLost (some k) (loseIdentity k s)

/-! ## Identification and re-evaluation -/

/-- R70, R143: an accepted IDENT identifies the tile in its slot. -/
def identify (k : SlotId) (f : TileFacts) (s : State) : State :=
  let p := identifyAs (s.plans.get k) s.records f
  initialiseDrift k
    (raise .tileNew (some k) (raiseEntered p k (s.withTile k ⟨p, some f, none⟩)))

/-- A slot moved between identified states: the cause of the state entered is raised, and the targets are computed when
that state is MATCHED or UNKNOWN (R30, R76, R77, R141). -/
def movePresence (k : SlotId) (p : Presence) (s : State) : State :=
  computeTargets k (raiseEntered p k (s.withTile k { s.tile k with presence := p }))

/-- R30, R77: re-evaluation of an identified slot against its stored tile facts. -/
def reevaluate (k : SlotId) (s : State) : State :=
  match (s.tile k).facts with
  | some f =>
      let p := identifyAs (s.plans.get k) s.records f
      if p = (s.tile k).presence then s else movePresence k p s
  | none => s

/-- R76: a slot re-judged after the library changed the record of an identity. A MATCHED slot of that serial stays
MATCHED, with its targets computed, or becomes UNKNOWN; an UNKNOWN slot of that serial becomes MATCHED if the record's
size is its tile's. -/
def rejudge (id : W64) (k : SlotId) (s : State) : State :=
  match (s.tile k).presence, (s.tile k).facts with
  | .matched, some f =>
      if f.serial = id then
        if libraryMatches s.records f then computeTargets k s else movePresence k .unknown s
      else s
  | .unknown, some f =>
      if f.serial = id ∧ libraryMatches s.records f then movePresence k .matched s else s
  | _, _ => s

/-- R76: a library change applied to every slot in ascending order. -/
def applyLibraryChange (id : W64) (s : State) : State := forSlots (rejudge id) s

/-! ## The query channel -/

/-- The instant from which a probe is due (R68, R69): after a probe timeout it moves with setting 5. -/
def dueTime (s : State) : ProbeDue → Nat
  | .instant t => t
  | .afterProbe sent => sent + s.settingNat 5

/-- R63, step 1: a probe is due for the slot. -/
def probeIsDue (s : State) (k : SlotId) : Bool :=
  decide ((s.tile k).presence = .absent) &&
  match (s.tile k).due with
  | some d => decide (dueTime s d ≤ s.clock)
  | none => false

/-- R62: a query handed to the D transmitter with a new tag; it is outstanding from now on (log 15). -/
def handOver (kind : QueryKind) (k : SlotId) (s : State) : State :=
  s.withQuery
    { s.query with
      outstanding := some ⟨kind, k, s.query.tagCounter + 1, .waiting⟩
      tagCounter := s.query.tagCounter + 1 }

/-- R146: the first identified slot from the round-robin pointer on, wrapping. -/
def roundRobinSlot (s : State) : Option SlotId :=
  (allSlots.map fun i => s.query.pointer + i).find? fun k => (s.tile k).presence.identified

/-- R63, steps 2 and 3: the head of the priority sense list, else a due round-robin sense (R146, R148). -/
def chooseSense (s : State) : State :=
  match s.query.senseList with
  | k :: rest => handOver .sense k (s.withQuery { s.query with senseList := rest })
  | [] =>
      if s.query.roundDue then
        match roundRobinSlot s with
        | some k => handOver .sense k (s.withQuery { s.query with pointer := k + 1, roundDue := false })
        | none => s.withQuery { s.query with roundDue := false }
      else s

/-- R63: a choice of the chain query unit. None is made while port D is DOWN or a query is outstanding; the sense steps
are passed over where R64 does not allow a sense request. -/
def chooseQuery (senses : Bool) (s : State) : State :=
  if !s.d.aligned || s.query.outstanding.isSome then s
  else
    match allSlots.find? (probeIsDue s) with
    | some k => handOver .probe k s
    | none => if senses then chooseSense s else s

/-- R74: on D's entry to ALIGNED the probe-due time of every ABSENT slot is set to that moment. -/
def probeAllAbsent (s : State) : State :=
  forSlots (fun k acc =>
    if (acc.tile k).presence = .absent then
      acc.withTile k { acc.tile k with due := some (.instant acc.clock) }
    else acc) s

/-- R74: every identified slot is lost, in ascending order. -/
def loseAllTiles (s : State) : State :=
  forSlots (fun k acc => if (acc.tile k).presence.identified then loseTile k acc else acc) s

/-- R62, R74, R79: the outstanding query is dropped. -/
def dropQuery (s : State) : State := s.withQuery { s.query with outstanding := none }

end Sys2Proof.Machine
end

