-- ==== Sys2Proof/Machine/Level.lean ====
section
/-! DEFINITION. The level unit: channel headrooms, run headroom, effective level and LEVEL-OVER (Chapter 9). -/

namespace Sys2Proof.Machine

/-- R159: the channel headroom; a channel whose gain is 0 is unlimited. -/
def channelHeadroom (u a : Nat) : Option Nat :=
  if u * a = 0 then none else some (2 ^ 44 / (u * a))

/-- R159: a slot counts: MATCHED or UNKNOWN, and not dark. -/
def counted (s : State) (k : SlotId) : Bool := (s.tile k).presence.isSent && !(s.plans.get k).dark

/-- The channel headrooms of a slot, unlimited channels left out (R159). -/
def slotHeadrooms (s : State) (k : SlotId) : List Nat :=
  if counted s k then
    ((slotCalibration s k).gains.zip channelHeadroom (s.drift.get k).applied).toList.filterMap id
  else []

/-- The smallest channel headroom so far, with the lowest slot that has it (R160). -/
def limitStep (k : SlotId) (best : Option (Nat × SlotId)) (h : Nat) : Option (Nat × SlotId) :=
  match best with
  | none => some (h, k)
  | some (b, j) => if h < b then some (h, k) else some (b, j)

/-- The smallest channel headroom of the run and its slot (R160). -/
def smallestHeadroom (s : State) : Option (Nat × SlotId) :=
  allSlots.foldl (fun best k => (slotHeadrooms s k).foldl (limitStep k) best) none

/-- R160: run headroom and limiting slot. -/
def runLimit (s : State) : Nat × Option SlotId :=
  match smallestHeadroom s with
  | some (h, k) => if h ≤ Config.unity then (h, some k) else (Config.unity, none)
  | none => (Config.unity, none)

/-- R161: the effective level from the wall level, the run headroom and the level guard. -/
def effectiveLevel (guard : Bool) (wall headroom : Nat) : Nat := if guard then min wall headroom else wall

/-- R159 to R162: stage 3 of a scan start. -/
def formLevel (s : State) : State :=
  let r := runLimit s
  let s1 := s.withLevel
    { s.level with
      headroom := r.1
      effective := effectiveLevel (decide (s.setting 15 = 1)) s.level.wall r.1
      limiting := r.2 }
  if r.1 < s.level.wall then raise .levelOver r.2 s1 else s1

end Sys2Proof.Machine
end

