-- ==== Sys2Proof/Machine/Scan.lean ====
section
/-! DEFINITION. The scan engine and the D transmitter: swap, binding, scan start, line forming, abort, and what the
transmitter begins next (Chapter 3, R62, R64). -/

namespace Sys2Proof.Machine

/-! ## Swap -/

/-- R36: the swap; it restarts the hold timer and makes the run LIVE (R53). -/
def swap (s : State) : State :=
  ((((s.withShown (Table.tabulate fun k =>
        if (s.plans.get k).isCanvas then s.incoming.get k else s.shown.get k)).withIncoming
      (Table.replicate 16 [])).withReceiver { s.receiver with ready := false }).withEngine
    { s.engine with holdStart := s.clock, display := .live })

/-! ## Binding -/

/-- The plan fields a scan reads (R48). -/
def Plan.bound : Plan → BoundSource
  | .none => .none
  | .canvas _ => .canvas
  | .mirror _ t => .mirror t
  | .flat _ c => .flat c
  | .grid _ c p => .grid c p

/-- R48: a MIRROR slot's target is CANVAS with an implied size equal to the slot's bound size. -/
def mirrorUsable (s : State) (k : SlotId) : Bool :=
  match s.plans.get k, (s.tile k).facts with
  | .mirror _ t, some f =>
      match s.plans.get t with
      | .canvas c => decide (c.implied = (f.width.toNat, f.height.toNat))
      | _ => false
  | _, _ => false

/-- R109: the combined gains of a slot. -/
def slotGain (s : State) (k : SlotId) : Rgb Nat :=
  (slotCalibration s k).gains.zip (fun u a => combinedGain u a s.level.effective) (s.drift.get k).applied

/-- R48: the binding of one slot. -/
def bindSlot (s : State) (k : SlotId) : BoundSlot :=
  { presence := (s.tile k).presence
    dark := (s.plans.get k).dark
    source := (s.plans.get k).bound
    mirrorUsable := mirrorUsable s k
    size := (s.tile k).facts.map fun f => ⟨f.width.toNat, f.height.toNat, f.depth.toNat⟩
    sent :=
      if (s.tile k).presence.isSent then some ⟨slotCalibration s k, s.bands.get k, slotGain s k⟩ else none }

/-- R48: the scan binding. -/
def bind (s : State) : Binding :=
  { slots := Table.tabulate (bindSlot s)
    threshold := s.settingNat 9
    limitThreshold := s.settingNat 10
    display := s.engine.display
    blank := s.engine.blank }

/-- The first sent slot at or after `n`; 16 when none is left (R50). -/
def nextSent (b : Binding) (n : Nat) : Nat :=
  match allSlots.find? fun k => decide (n ≤ k.val) && (b.slots.get k).sent.isSome with
  | some k => k.val
  | none => 16

/-! ## Lines -/

/-- R51: the input of a slot at native (x, y), image content read as it stands now. -/
def sourceInput (s : State) (b : BoundSlot) (k : SlotId) (x y : Nat) : Rgb Nat :=
  match b.source with
  | .none => Rgb.all 0
  | .canvas => shownPixel s k x y
  | .mirror t => if b.mirrorUsable then shownPixel s t x y else Rgb.all 0
  | .flat c => c
  | .grid c p => if x % p = 0 ∨ y % p = 0 then c else Rgb.all 0

/-- A TILE-PIXELS cell (R50, Table 1-2). -/
def tilePixelsCell (k : SlotId) (y first : Nat) (values : List (Rgb Nat)) : Cell :=
  ⟨kindTilePixels, 0,
   [byte1 k.val, byte1 y, byte1 first, byte1 values.length] ++
   values.flatMap fun v => v.toList.flatMap (beBytes 2)⟩

/-- R50: a line as cells of at most 64 pixels, left to right. -/
def lineCells (k : SlotId) (y : Nat) (values : List (Rgb Nat)) : List Cell :=
  (List.range ((values.length + 63) / 64)).map fun i =>
    tilePixelsCell k y (Config.cellPixels * i) ((values.drop (Config.cellPixels * i)).take Config.cellPixels)

/-- R103: the values and top clamps of one line of a bound slot, formed from the images as they stand now. -/
def lineOf (s : State) (b : Binding) (k : SlotId) (c : SentCopy) (size : BoundSize) (y : Nat) :
    List (Rgb Nat) × Nat :=
  let bs := b.slots.get k
  finishLine (overridden b bs) c size.depth y
    (scaledLine c b.threshold size.width size.depth y fun x => sourceInput s bs k x y)

/-- The place of the next line after line `y` of slot `k` (R50). -/
def nextPlace (b : Binding) (k : SlotId) (height y : Nat) : Nat × Nat :=
  if y + 1 < height then (k.val, y + 1) else (nextSent b (k.val + 1), 0)

/-- R50, R103, R115: the scan's next line formed: its cells, its top clamps counted, the place moved on. -/
def Scan.formLine (s : State) (sc : Scan) : Scan :=
  if h : sc.slot < 16 then
    let k : SlotId := ⟨sc.slot, h⟩
    let bs := sc.binding.slots.get k
    match bs.sent, bs.size with
    | some c, some size =>
        let r := lineOf s sc.binding k c size sc.line
        let place := nextPlace sc.binding k size.height sc.line
        { sc with
          running := sc.running.set k (sc.running.get k + r.2)
          slot := place.1
          line := place.2
          cells := lineCells k sc.line r.1 }
    | _, _ => { sc with slot := nextSent sc.binding (sc.slot + 1), line := 0 }
  else sc

/-- A line formed when the scan in flight has no formed cell left (R50). -/
def formIfNeeded (s : State) : State :=
  match s.engine.scan with
  | some sc =>
      match sc.cells with
      | [] => s.withEngine { s.engine with scan := some (sc.formLine s) }
      | _ :: _ => s
  | none => s

/-! ## Scan start and abort -/

/-- The scan engine enters SCANNING with a new binding and the next scan number; its first line is formed (R47, R50). -/
def enterScanning (s : State) : State :=
  let b := bind s
  formIfNeeded
    (s.withEngine
      { s.engine with
        scan := some ⟨b, Table.replicate 16 0, nextSent b 0, 0, []⟩
        number := s.engine.number + 1
        repeatStart := none })

/-- R47: a scan start: swap if a READY frame exists, slew, level, binding, scan number. -/
def startScan (s : State) : State :=
  enterScanning (formLevel (slewAll (if s.receiver.ready then swap s else s)))

/-- R54, R59: the scan in flight is aborted; its binding, running counts and cells not begun are discarded. -/
def abortScan (s : State) : State := s.withEngine { s.engine with scan := none }

/-- R54: what an assertion of BLANKn does to the engine when no TILE-SHOW is in transmission: the scan in flight is
aborted, or the repeat timer stopped, and a new scan starts at once. -/
def blankRestart (s : State) : State := startScan (abortScan s)

/-- `blankRestart` once for each waiting assertion. -/
def blankRestarts : Nat → State → State
  | 0, s => s
  | n + 1, s => blankRestarts n (blankRestart s)

/-! ## The D transmitter -/

/-- The scan's TILE-SHOW cell is in transmission (R45). -/
def showBegun (s : State) : Bool :=
  match s.d.tx with
  | some c => c.kind == kindTileShow
  | none => false

/-- The cell in transmission on D is of a kind. -/
def txIs (s : State) (kind : Byte) : Bool :=
  match s.d.tx with
  | some c => c.kind == kind
  | none => false

/-- The TILE-SHOW cell of the scan in flight (R47, R50). -/
def showCell (s : State) : Cell := ⟨kindTileShow, 0, be16 s.engine.number⟩

/-- The cell of a query (Table 1-2, R62). -/
def queryCell (q : Query) : Cell :=
  ⟨match q.kind with
   | .probe => kindProbe
   | .sense => kindSenseRequest, q.tag, [byte1 q.slot.val]⟩

/-- R186: a restart is due at the present scan end, so no cell begins before it is carried out (log 10). -/
def restartDue (s : State) : Bool :=
  match s.restart with
  | some w => w.scanEnded
  | none => false

/-- The D transmitter takes a cell. -/
def transmit (c : Cell) (s : State) : State := s.withD { s.d with tx := some c }

/-- The next cell of the scan in flight begins: a formed cell, or the TILE-SHOW after the last line (R50). -/
def beginScanCell (s : State) : State :=
  match s.engine.scan with
  | some sc =>
      match sc.cells with
      | c :: rest => transmit c (s.withEngine { s.engine with scan := some { sc with cells := rest } })
      | [] => if 16 ≤ sc.slot then transmit (showCell s) s else s
  | none => s

/-- R9, R64: at a cell boundary the transmitter begins a handed-over query, else the scan's next cell (log 16). -/
def beginNext (s : State) : State :=
  if s.d.tx.isSome || restartDue s then s
  else
    match s.query.outstanding with
    | some q =>
        if q.phase = .waiting then
          transmit (queryCell q) (s.withQuery { s.query with outstanding := some { q with phase := .sending } })
        else beginScanCell s
    | none => beginScanCell s

/-- A choice of the chain query unit while no scan end is at hand: senses go out only while the engine is IDLE (R64). A
channel that becomes free after a scan end but before the new scan's first cell counts as within that scan, so a sense
waits for its end (log 29: the model's choice). -/
def chooseAndBegin (s : State) : State := beginNext (chooseQuery s.engine.scan.isNone s)

end Sys2Proof.Machine
end

