-- ==== Sys2Proof/Machine/Source.lean ====
section
/-! DEFINITION. The source selector, the frame receiver and the frame-structure trackers (1.3, 1.6, 2.6). -/

namespace Sys2Proof.Machine

/-! ## Frame receiver -/

/-- Whether the receiver is RECEIVING. -/
def State.receiving (s : State) : Bool :=
  match s.receiver.phase with
  | .receiving _ _ => true
  | .idle => false

/-- R41: the open frame is abandoned: every incoming image is discarded and the receiver leaves RECEIVING. -/
def abandonFrame (s : State) : State :=
  if s.receiving then
    (s.withIncoming (Table.replicate 16 [])).withReceiver { s.receiver with phase := .idle }
  else s

/-- R37: a frame begins: its open time recorded, every CANVAS slot's incoming image a copy of the shown image. -/
def beginFrame (m : W16) (s : State) : State :=
  (s.withIncoming (Table.tabulate fun k =>
      if (s.plans.get k).isCanvas then s.shown.get k else s.incoming.get k)).withReceiver
    { s.receiver with phase := .receiving m s.clock }

/-! ## Source selector -/

/-- The preferred source: setting 0 (R11). -/
def State.preferred (s : State) : Up := if s.setting 0 = 1 then .ub else .ua

/-- R11: the selector's choice. -/
def sourceChoice (s : State) : Option Up :=
  if (s.up s.preferred).state = .up then some s.preferred
  else if (s.up (otherPort s.preferred)).state = .up then some (otherPort s.preferred)
  else none

/-- R11: a change of the active source, which raises SOURCE-SWITCH and leaves no pending switch. -/
def switchSource (x : Option Up) (s : State) : State :=
  raise .sourceSwitch none (s.withSelector ⟨x, none⟩)

/-- R11, R12: the selector settles the active source. -/
def settle (s : State) : State :=
  match s.selector.active with
  | none =>
      match sourceChoice s with
      | some p => switchSource (some p) s
      | none => s.withSelector ⟨none, none⟩
  | some a =>
      if (s.up a).state ≠ .up then switchSource (sourceChoice s) (abandonFrame s)
      else if sourceChoice s = some a then s.withSelector ⟨some a, none⟩
      else if s.receiving then s.withSelector ⟨some a, sourceChoice s⟩
      else switchSource (sourceChoice s) s

/-- R12: a pending switch is carried out when the frame receiver has left RECEIVING. -/
def carrySwitch (s : State) : State :=
  match s.selector.toSwitch with
  | some p => if s.receiving then s else switchSource (some p) s
  | none => s

/-! ## Frame cells of the active source -/

/-- R37: a FRAME-OPEN taken by the frame receiver. -/
def receiveOpen (m : W16) (s : State) : State :=
  if s.receiving then
    let s1 := raise .frameSeq none (abandonFrame s)
    if s1.selector.toSwitch.isSome then carrySwitch s1 else beginFrame m s1
  else if s.receiver.ready then
    beginFrame m (raise .frameDrop none (s.withReceiver { s.receiver with ready := false }))
  else beginFrame m s

/-- R34, R38: a PIXEL-RUN taken by the frame receiver. -/
def receiveRun (line column : Nat) (pixels : List RawPixel) (s : State) : State :=
  if s.receiving then
    s.withIncoming (Table.tabulate fun k => placeRun (s.plans.get k) line column pixels (s.incoming.get k))
  else s

/-- R39, R46: a frame has become READY: an IDLE engine swaps it in and starts a scan at once. -/
def frameReady (s : State) : State :=
  if s.engine.scan.isNone then beginNext (startScan s) else s

/-- R39: a FRAME-CLOSE taken by the frame receiver. -/
def receiveClose (m : W16) (s : State) : State :=
  match s.receiver.phase with
  | .idle => raise .frameSeq none s
  | .receiving n _ =>
      if m = n then frameReady (carrySwitch (s.withReceiver ⟨.idle, true⟩))
      else carrySwitch (raise .frameSeq none (abandonFrame s))

/-! ## Trackers -/

/-- R5: the tracker closes its frame uncompleted. -/
def Upstream.uncompleted (u : Upstream) : Upstream := { u with openFrame := none, completeRun := 0 }

/-- R40: a frame that the receiver abandons for lateness is also closed uncompleted by its port's tracker. -/
def closeLate (s : State) : State :=
  match s.selector.active with
  | some p => if (s.up p).openFrame.isSome then s.withUp p (s.up p).uncompleted else s
  | none => s

/-- R40: the frame open limit, if it has expired for the frame in RECEIVING. -/
def receiverLimit (s : State) : State :=
  match s.receiver.phase with
  | .receiving _ t =>
      if s.expired 2 t then carrySwitch (raise .frameLate none (abandonFrame (closeLate s))) else s
  | .idle => s

/-- R5: a FRAME-OPEN at a port's tracker. -/
def trackOpen (p : Up) (n : W16) (s : State) : State :=
  let u := s.up p
  s.withUp p
    { u with
      lastOpen := some s.clock
      completeRun := if u.openFrame.isSome then 0 else u.completeRun
      openFrame := some ⟨n, s.clock⟩ }

/-- R6: the source loss time has not expired since a port's last FRAME-OPEN. -/
def sourceFresh (s : State) (p : Up) : Bool :=
  match (s.up p).lastOpen with
  | some t => !s.expired 1 t
  | none => false

/-- R6: an ALIGNED port whose complete-frame run has reached 3 enters UP, or has its run set to 0 when the source loss
time has expired. -/
def tryUp (p : Up) (s : State) : State :=
  let u := s.up p
  if u.state = .aligned ∧ u.completeRun = Config.completeRunMax then
    if sourceFresh s p then settle (s.withUp p { u with state := .up })
    else s.withUp p { u with completeRun := 0 }
  else s

/-- R5: a FRAME-CLOSE at a port's tracker. -/
def trackClose (p : Up) (n : W16) (s : State) : State :=
  let u := s.up p
  match u.openFrame with
  | some f =>
      if f.number = n then
        tryUp p (s.withUp p
          { u with
            openFrame := none
            completeRun := min Config.completeRunMax (u.completeRun + 1)
            complete := tallyUp u.complete })
      else s.withUp p u.uncompleted
  | none => s.withUp p u.uncompleted

/-- R5: the frame open limit, if it has expired for the open frame of a port's tracker. -/
def trackerLimit (p : Up) (s : State) : State :=
  match (s.up p).openFrame with
  | some f => if s.expired 2 f.openedAt then s.withUp p (s.up p).uncompleted else s
  | none => s

/-- R6: the source loss time has expired for an UP port. -/
def sourceStale (s : State) (p : Up) : Bool := decide ((s.up p).state = .up) && !sourceFresh s p

/-- R6: an UP port whose source loss time has expired leaves UP for ALIGNED; the selector is not yet settled. -/
def leaveUpIfStale (p : Up) (s : State) : State :=
  if sourceStale s p then s.withUp p { s.up p with state := .aligned, completeRun := 0 } else s

/-- R6, R11: the source loss time, if it has expired for an UP port. -/
def sourceLoss (p : Up) (s : State) : State :=
  if sourceStale s p then settle (leaveUpIfStale p s) else s

/-- R6: a write of setting 1, measured for both ports at the write; the selector settles once after both (log 8). -/
def sourceLossBoth (s : State) : State :=
  if sourceStale s .ua || sourceStale s .ub then settle (leaveUpIfStale .ub (leaveUpIfStale .ua s)) else s

end Sys2Proof.Machine
end

