-- ==== Sys2Proof/Machine/Link.lean ====
section
/-! DEFINITION. The link receivers: counting of CRC-good and CRC-failed cells, the port states, the entries to DOWN and
ALIGNED, and tile alerts (R2 to R8, R17). -/

namespace Sys2Proof.Machine

/-! ## Entry to DOWN -/

/-- R93: the owning port's entry to DOWN abandons its open load, raising LOAD-ABANDONED. -/
def abandonLoadOf (p : Up) (s : State) : State :=
  match s.load with
  | some l => if l.owner = p then raise .loadAbandoned none (s.withLoad none) else s
  | none => s

/-- The upstream port a request command is on. -/
def Instr.requestPort : Instr → Option Up
  | .readSetting p _ _ => some p
  | .writeSetting p _ _ _ => some p
  | .readPlan p _ _ => some p
  | .writePlan p _ _ _ => some p
  | .readSlot p _ _ => some p
  | .readBand p _ _ _ => some p
  | .writeBand p _ _ _ _ => some p
  | .libOpen p _ _ => some p
  | .libPut p _ _ _ => some p
  | .libClose p _ => some p
  | .libAbort p _ => some p
  | .libDelete p _ _ => some p
  | .libRead p _ _ _ _ => some p
  | .libList p _ _ _ => some p
  | .setLevel p _ _ => some p
  | .readLevel p _ => some p
  | .flagTest p _ _ => some p
  | .flagSet p _ _ => some p
  | .flagClear p _ _ => some p
  | .flagChange p _ _ => some p
  | .readCauses p _ => some p
  | .clearCauses p _ _ => some p
  | .writeCauseControl p _ _ _ _ => some p
  | .probeSlots p _ _ => some p
  | .senseSlot p _ _ => some p
  | .readPorts p _ => some p
  | .restart p _ => some p
  | .unknownRequest p _ _ _ => some p
  | _ => none

/-- R186: requests waiting at a port that enters DOWN are discarded without count, and the reply to its waiting RESTART
is lost (log 12). -/
def dropWaiting (p : Up) (s : State) : State :=
  (s.withWaiting (s.waiting.filter fun i => decide (Instr.requestPort i ≠ some p))).withRestart
    (s.restart.map fun w => if w.port = p then { w with replyLost := true } else w)

/-- The record of an upstream port that has entered DOWN (R4, R7): the tallies are kept, and of the return queue only the
cell whose transmission has begun. -/
def Upstream.fallen (u : Upstream) : Upstream :=
  { u with
    state := .down
    goodRun := 0
    failedRun := 0
    openFrame := none
    completeRun := 0
    lastOpen := none
    queue := u.queue.take 1 }

/-- R4, R7: an upstream port enters DOWN; a port already DOWN only has its counts set to 0. -/
def enterDown (p : Up) (s : State) : State :=
  let u := s.up p
  if u.state = .down then s.withUp p { u with goodRun := 0, failedRun := 0 }
  else settle (abandonLoadOf p (releaseEditFlag p (dropWaiting p (s.withUp p u.fallen))))

/-- R8, R74: port D enters DOWN; when already DOWN only its counts are set to 0. -/
def enterDownD (s : State) : State :=
  let s1 := s.withD { s.d with aligned := false, goodRun := 0, failedRun := 0 }
  if s.d.aligned then loseAllTiles (dropQuery s1) else s1

/-! ## CRC-failed cells -/

/-- R2, R4: a CRC-failed cell on an upstream port. -/
def crcFailedUp (p : Up) (s : State) : State :=
  let u := s.up p
  let s1 := raise .linkErr none (s.withUp p
    { u with
      crcFailed := tallyUp u.crcFailed
      failedRun := min Config.failedRunMax (u.failedRun + 1)
      goodRun := 0 })
  if (s1.up p).failedRun = Config.failedRunMax then enterDown p s1 else s1

/-- R2, R8: a CRC-failed cell on port D. -/
def crcFailedD (s : State) : State :=
  let s1 := raise .linkErr none (s.withD
    { s.d with
      crcFailed := tallyUp s.d.crcFailed
      failedRun := min Config.failedRunMax (s.d.failedRun + 1)
      goodRun := 0 })
  if s1.d.failedRun = Config.failedRunMax then enterDownD s1 else s1

/-- R2: a CRC-failed cell on a port. -/
def crcFailed (p : Port) (s : State) : State :=
  match p with
  | .up q => crcFailedUp q s
  | .d => crcFailedD s

/-- Whether a port's receiver is in its lost condition (R1). -/
def State.signalLost (s : State) (p : Port) : Bool :=
  match p with
  | .up q => (s.up q).lost
  | .d => s.d.lost

/-- The receiver's lost condition entered or left (R1). -/
def setLost (p : Port) (x : Bool) (s : State) : State :=
  match p with
  | .up q => s.withUp q { s.up q with lost := x }
  | .d => s.withD { s.d with lost := x }

/-- A port enters DOWN (R4, R7, R8). -/
def portDown (p : Port) (s : State) : State :=
  match p with
  | .up q => enterDown q s
  | .d => enterDownD s

/-! ## CRC-good cells -/

/-- R4: a CRC-good cell counted on an upstream port; the eighth in DOWN moves the port to ALIGNED. -/
def countGoodUp (p : Up) (s : State) : State :=
  let u := s.up p
  let u1 := { u with goodRun := min Config.goodRunMax (u.goodRun + 1), failedRun := 0 }
  if u.state = .down ∧ u1.goodRun = Config.goodRunMax then
    settle (s.withUp p { u1 with state := .aligned, completeRun := 0, openFrame := none })
  else s.withUp p u1

/-- R4, R8, R74: a CRC-good cell counted on port D; on entry to ALIGNED every ABSENT slot's probe becomes due. -/
def countGoodD (s : State) : State :=
  let g := min Config.goodRunMax (s.d.goodRun + 1)
  let s1 := s.withD { s.d with goodRun := g, failedRun := 0 }
  if !s.d.aligned && g == Config.goodRunMax then
    chooseAndBegin (probeAllAbsent (s1.withD { s1.d with aligned := true }))
  else s1

/-- R3, R4: a CRC-good cell on an upstream port: counted, then acted upon if the port was in a state that takes cells.
While the signal is lost no cell arrives (R1, log 5). -/
def upCell (p : Up) (act : State → State) (s : State) : State :=
  if (s.up p).lost then s
  else if s.takesCells p then act (countGoodUp p s)
  else countGoodUp p s

/-- R3, R4, R8: a CRC-good cell on port D. -/
def dCell (act : State → State) (s : State) : State :=
  if s.d.lost then s
  else if s.d.aligned then act (countGoodD s)
  else countGoodD s

/-- R3: a foreign or malformed cell counted on an upstream port. -/
def countForeign (p : Up) (s : State) : State :=
  s.withUp p { s.up p with foreign := tallyUp (s.up p).foreign }

/-- R3, R66: a stray cell counted on port D. -/
def countStray (s : State) : State := s.withD { s.d with stray := tallyUp s.d.stray }

/-- R15, R186: a request discarded unanswered. -/
def countUnanswered (p : Up) (s : State) : State :=
  s.withUp p { s.up p with unanswered := tallyUp (s.up p).unanswered }

/-! ## Tile alerts -/

/-- R186: the port sent a RESTART that waits for a scan end. -/
def awaitsRestart (s : State) (p : Up) : Bool :=
  match s.restart with
  | some w => decide (w.port = p)
  | none => false

/-- R17, R186: an alert forwarded to one port: placed, or dropped and counted, or neither for a DOWN port. -/
def forwardAlert (c : Cell) (p : Up) (s : State) : State :=
  if !s.takesCells p then s
  else if s.hasRoom p && !awaitsRestart s p then s.enqueue p c
  else s.withD { s.d with dropped := tallyUp s.d.dropped }

end Sys2Proof.Machine
end

