-- ==== Sys2Proof/Machine/Handler.lean ====
section
/-! DEFINITION. Taking and answering requests: the wait of a restart, room in the return queue, ownership, execution and
reply (10.1, R169 to R174, R186). -/

namespace Sys2Proof.Machine

/-- A request as the handler judges it: its port, tag and code, and its execution, which answers with outcome and data,
or leaves the reply to a later scan end (RESTART alone, R186). -/
structure Request where
  port : Up
  tag : W16
  code : Byte
  body : State → State × Option Answer

/-- A request whose execution changes no state (R170, class read). -/
def readRequest (p : Up) (tag : W16) (code : Byte) (answer : State → Answer) : Request :=
  ⟨p, tag, code, fun s => (s, some (answer s))⟩

/-- A request answered when it is executed, whatever the edit flag (R170, class flag). -/
def flagRequest (p : Up) (tag : W16) (code : Byte) (body : State → State × Answer) : Request :=
  ⟨p, tag, code, fun s => ((body s).1, some (body s).2)⟩

/-- An edit (R170): refused NOT-OWNER while the other port holds flag 0 (R171 step 2, R174). -/
def editRequest (p : Up) (tag : W16) (code : Byte) (body : State → State × Answer) : Request :=
  ⟨p, tag, code, fun s =>
    if editRefused s p then (s, some (.refuse .notOwner)) else ((body s).1, some (body s).2)⟩

/-- R171, R169: a request executed whole; its reply enters the queue of its port as the last act. -/
def serve (r : Request) (s : State) : State :=
  match r.body s with
  | (s1, some a) => s1.enqueue r.port (replyCell r.tag r.code a)
  | (s1, none) => s1

/-- The requests waiting at a port (R186). -/
def waitingAt (s : State) (p : Up) : Nat :=
  (s.waiting.filter fun i => decide (Instr.requestPort i = some p)).length

/-- R186: a REQUEST arriving while a restart waits: it waits at its port, or is discarded and counted when four wait. -/
def holdRequest (i : Instr) (p : Up) (s : State) : State :=
  if waitingAt s p < Config.maxWaiting then s.withWaiting (s.waiting ++ [i]) else countUnanswered p s

/-- R15, R186: a REQUEST that reached the handler is held while a restart waits, discarded unanswered when the return
queue of its port is full, and executed otherwise. -/
def takeRequest (i : Instr) (r : Request) (s : State) : State :=
  if s.restart.isSome then holdRequest i r.port s
  else if s.hasRoom r.port then serve r s
  else countUnanswered r.port s

/-- A REQUEST cell arriving at its port (R3, R4, R15, R169). -/
def arriveRequest (i : Instr) (r : Request) (s : State) : State := upCell r.port (takeRequest i r) s

end Sys2Proof.Machine
end

