-- ==== Sys2Proof/Machine/LinkEvents.lean ====
section
/-! DEFINITION. The meanings of the link's commands: failed and foreign cells, loss and return of symbols, frame cells,
tile alerts and return cells (Chapter 1, Chapter 2). -/

namespace Sys2Proof.Machine

/-- The row CRC_FAILED_CELL (R2). While the signal is lost no cell arrives (R1). -/
def execCrcFailedCell (p : Port) (s : State) : Host.Outcome State Fault Refusal :=
  .next (if s.signalLost p then s else crcFailed p s)

/-- The row LOSS_OF_SIGNAL (R1): a cell in progress is truncated before the loss reaches the port state machine. -/
def execLossOfSignal (p : Port) (cellInProgress : Bool) (s : State) : Host.Outcome State Fault Refusal :=
  .next (portDown p (setLost p true (if cellInProgress && !s.signalLost p then crcFailed p s else s)))

/-- The row SYMBOLS_RETURN (R1): the receiver leaves its lost condition; the port stays DOWN. -/
def execSymbolsReturn (p : Port) (s : State) : Host.Outcome State Fault Refusal := .next (setLost p false s)

/-- The row FOREIGN_CELL (R3). -/
def execForeignCell (p : Port) (_c : Cell) (s : State) : Host.Outcome State Fault Refusal :=
  .next (match p with
    | .up q => upCell q (countForeign q) s
    | .d => dCell countStray s)

/-- The row FRAME_OPEN (R5, R37): to the port's tracker, and to the frame receiver when the port is the active source. -/
def execFrameOpen (p : Up) (n : W16) (s : State) : Host.Outcome State Fault Refusal :=
  .next (upCell p (fun s1 =>
    let s2 := trackOpen p n s1
    if s1.selector.active = some p then receiveOpen n s2 else s2) s)

/-- The row PIXEL_RUN (R34, R38); a malformed run is foreign (R3). -/
def execPixelRun (p : Up) (line column : W16) (pixels : List RawPixel) (s : State) :
    Host.Outcome State Fault Refusal :=
  .next (upCell p (fun s1 =>
    if runMalformed line.toNat column.toNat pixels.length then countForeign p s1
    else if s1.selector.active = some p then receiveRun line.toNat column.toNat pixels s1
    else s1) s)

/-- The row FRAME_CLOSE (R5, R6, R39): to the port's tracker, and to the frame receiver when the port was the active
source as the cell was taken (log 7). -/
def execFrameClose (p : Up) (n : W16) (s : State) : Host.Outcome State Fault Refusal :=
  .next (upCell p (fun s1 =>
    let s2 := trackClose p n s1
    if s1.selector.active = some p then receiveClose n s2 else s2) s)

/-- The row TILE_ALERT (R17): forwarded to UA and UB. -/
def execTileAlert (tag : W16) (payload : List Byte) (s : State) : Host.Outcome State Fault Refusal :=
  .next (dCell (fun s1 =>
    let c : Cell := ⟨kindForwardedAlert, tag, payload⟩
    forwardAlert c .ub (forwardAlert c .ua s1)) s)

/-- The row RETURN_CELL_SENT (R14): the oldest cell leaves the queue; the next oldest is then in transmission. -/
def execReturnCellSent (p : Up) (s : State) : Host.Outcome State Fault Refusal :=
  .next (s.withUp p { s.up p with queue := (s.up p).queue.tail })

end Sys2Proof.Machine
end

