-- ==== Sys2Proof/WellFormed.lean ====
section
/-! DEFINITION. The checks on a command's operands that the link makes before the command is that command (R3, R172). -/

namespace Sys2Proof

open Sys2Proof.Machine

/-- A command as the link can spell it. A PIXEL-RUN is not malformed (R3), a LIB-PUT carries 1 to 64 words (R172), a
payload fits a cell (Table 1-1), a foreign cell is foreign on its port (R3), and an unknown request has no code and
length of Table 1-3 (R172). -/
def Instr.wellFormed : Instr → Bool
  | .pixelRun _ line column pixels => !runMalformed line.toNat column.toNat pixels.length
  | .libPut _ _ _ words => decide (1 ≤ words.length) && decide (words.length ≤ 64)
  | .tileAlert _ payload => decide (payload.length ≤ 4095)
  | .foreignCell p c => cellForeign p c && decide (c.payload.length ≤ 4095)
  | .unknownRequest _ _ code operands =>
      !requestLengthOk code.toNat operands.length && decide (operands.length ≤ 4094)
  | _ => true

end Sys2Proof
end

