-- ==== Sys2Proof/Machine/Receive.lean ====
section
/-! DEFINITION. What a receiver makes of line symbols and of a CRC-good cell: delineation and the CRC test (R1, R2), and
the command that a cell is (R3, Table 1-2, Table 1-3, R172). -/

namespace Sys2Proof.Machine

/-- A line symbol (1.1). -/
inductive LineSymbol where
  | start
  | idle
  | data (b : Byte)
deriving DecidableEq, Repr

/-- What a receiver reports at a symbol. -/
inductive Received where
  | nothing
  | failed
  | good (c : Cell)
deriving DecidableEq, Repr

/-- The length a partial cell must reach, once its header is in: 5 + length + 2 (R1). The upper four bits of the length
are ignored (R20). -/
def cellLength (bytes : List Byte) : Nat := 5 + field bytes 1 2 % 4096 + 2

/-- R2: a complete cell judged by its CRC. -/
def judgeCell (bytes : List Byte) : Received :=
  let body := bytes.take (bytes.length - 2)
  if crc16 body = BitVec.ofNat 16 (field bytes (bytes.length - 2) 2) then
    .good ⟨bytes.getD 0 0, BitVec.ofNat 16 (field bytes 3 2), body.drop 5⟩
  else .failed

/-- R1: one symbol at a receiver; the partial cell is none outside a cell. -/
def delineate (partialCell : Option (List Byte)) (x : LineSymbol) : Option (List Byte) × Received :=
  match x, partialCell with
  | .start, none => (some [], .nothing)
  | .start, some _ => (some [], .failed)
  | .idle, none => (none, .nothing)
  | .idle, some _ => (none, .failed)
  | .data _, none => (none, .nothing)
  | .data b, some bytes =>
      let now := bytes ++ [b]
      if 5 ≤ now.length ∧ now.length = cellLength now then (none, judgeCell now) else (some now, .nothing)

/-- R1: a sequence of symbols at a receiver, with all it reports but nothing. -/
def delineateAll : Option (List Byte) → List LineSymbol → Option (List Byte) × List Received
  | partialCell, [] => (partialCell, [])
  | partialCell, x :: xs =>
      let r := delineate partialCell x
      let rest := delineateAll r.1 xs
      (rest.1, if r.2 = .nothing then rest.2 else r.2 :: rest.2)

/-- The two-byte field at an offset. -/
def word16 (bs : List Byte) (offset : Nat) : W16 := BitVec.ofNat 16 (field bs offset 2)
/-- The four-byte field at an offset. -/
def word32 (bs : List Byte) (offset : Nat) : W32 := BitVec.ofNat 32 (field bs offset 4)
/-- The eight-byte field at an offset. -/
def word64 (bs : List Byte) (offset : Nat) : W64 := BitVec.ofNat 64 (field bs offset 8)
/-- The byte at an offset. -/
def byteAt (bs : List Byte) (offset : Nat) : Byte := bs.getD offset 0

/-- The plan entry at an offset (Table 1-5). -/
def planAt (bs : List Byte) (o : Nat) : RawPlan :=
  { kind := byteAt bs o, dark := byteAt bs (o + 1), line := word16 bs (o + 2), column := word16 bs (o + 4)
    width := word16 bs (o + 6), height := word16 bs (o + 8), orientation := byteAt bs (o + 10)
    mirror := byteAt bs (o + 11), target := byteAt bs (o + 12), pitch := byteAt bs (o + 13)
    colour := ⟨word16 bs (o + 14), word16 bs (o + 16), word16 bs (o + 18)⟩ }

/-- The band entry at an offset (Table 1-6). -/
def bandAt (bs : List Byte) (o : Nat) : RawBand :=
  { enabled := byteAt bs o, y0 := byteAt bs (o + 1), y1 := byteAt bs (o + 2), startEdge := word32 bs (o + 3)
    endEdge := word32 bs (o + 7), startSlope := word32 bs (o + 11), endSlope := word32 bs (o + 15)
    startGain := word16 bs (o + 19), endGain := word16 bs (o + 21) }

/-- The command a REQUEST is, from its code and operands (Table 1-3, R172). -/
def requestCommand (p : Up) (tag : W16) (code : Byte) (ops : List Byte) : Instr :=
  if requestLengthOk code.toNat ops.length then
    match code.toNat with
    | 0x01 => .readSetting p tag (byteAt ops 0)
    | 0x02 => .writeSetting p tag (byteAt ops 0) (word32 ops 1)
    | 0x03 => .readPlan p tag (byteAt ops 0)
    | 0x04 => .writePlan p tag (byteAt ops 0) (planAt ops 1)
    | 0x05 => .readSlot p tag (byteAt ops 0)
    | 0x06 => .readBand p tag (byteAt ops 0) (byteAt ops 1)
    | 0x07 => .writeBand p tag (byteAt ops 0) (byteAt ops 1) (bandAt ops 2)
    | 0x08 => .libOpen p tag (word64 ops 0)
    | 0x09 => .libPut p tag (word16 ops 0) ((List.range (ops.length / 2 - 1)).map fun i => word16 ops (2 + 2 * i))
    | 0x0A => .libClose p tag
    | 0x0B => .libAbort p tag
    | 0x0C => .libDelete p tag (word64 ops 0)
    | 0x0D => .libRead p tag (word64 ops 0) (word16 ops 8) (byteAt ops 10)
    | 0x0E => .libList p tag (byteAt ops 0) (byteAt ops 1)
    | 0x0F => .setLevel p tag (word32 ops 0)
    | 0x10 => .readLevel p tag
    | 0x11 => .flagTest p tag (byteAt ops 0)
    | 0x12 => .flagSet p tag (byteAt ops 0)
    | 0x13 => .flagClear p tag (byteAt ops 0)
    | 0x14 => .flagChange p tag (byteAt ops 0)
    | 0x15 => .readCauses p tag
    | 0x16 => .clearCauses p tag (word16 ops 0)
    | 0x17 => .writeCauseControl p tag (byteAt ops 0) (byteAt ops 1) (byteAt ops 2)
    | 0x18 => .probeSlots p tag (word16 ops 0)
    | 0x19 => .senseSlot p tag (byteAt ops 0)
    | 0x1A => .readPorts p tag
    | 0x1B => .restart p tag
    | _ => .unknownRequest p tag code ops
  else .unknownRequest p tag code ops

/-- Pixel `i` of a PIXEL-RUN payload (Table 1-2). -/
def runPixel (bs : List Byte) (i : Nat) : RawPixel :=
  ⟨word16 bs (6 + 6 * i), word16 bs (8 + 6 * i), word16 bs (10 + 6 * i)⟩

/-- The command that a CRC-good cell on a port is (the list of R3). -/
def cellCommand (p : Port) (c : Cell) : Instr :=
  if cellForeign p c then .foreignCell p c
  else
    match p with
    | .up q =>
        if c.kind = kindFrameOpen then .frameOpen q (word16 c.payload 0)
        else if c.kind = kindPixelRun then
          .pixelRun q (word16 c.payload 0) (word16 c.payload 2)
            ((List.range (field c.payload 4 2)).map (runPixel c.payload))
        else if c.kind = kindFrameClose then .frameClose q (word16 c.payload 0)
        else requestCommand q c.tag (byteAt c.payload 0) c.payload.tail
    | .d =>
        if c.kind = kindIdent then
          .ident c.tag (byteAt c.payload 0) (word64 c.payload 1) (word16 c.payload 9) (word16 c.payload 11)
            (byteAt c.payload 13) (BitVec.ofNat 24 (field c.payload 14 3))
        else if c.kind = kindSenseReply then
          .senseReply c.tag (byteAt c.payload 0) (word16 c.payload 1) (word16 c.payload 3)
            (BitVec.ofNat 24 (field c.payload 5 3))
        else .tileAlert c.tag c.payload

end Sys2Proof.Machine
end

