-- ==== Sys2Proof/Machine/Notices.lean ====
section
/-! DEFINITION. The notice arbiter (11.3). -/

namespace Sys2Proof.Machine

/-- R16: an upstream port takes a notice: it is not DOWN and its queue has a free place. -/
def noticeTaken (s : State) (p : Up) : Bool := s.takesCells p && s.hasRoom p

/-- R16: one copy of a notice placed in a port's queue. -/
def placeNotice (c : Cell) (p : Up) (s : State) : State := if noticeTaken s p then s.enqueue p c else s

/-- R193: a cause becomes announced and the millisecond is used. -/
def announce (c : Fin 16) (s : State) : State :=
  (s.withCauses (s.causes.set c { s.causes.get c with announced := true })).withNoticePlaced true

/-- R192, R193: an offer. None is made when a notice has been placed since the part time last advanced, nor while a
restart waits for a scan end (R186). -/
def noticeOffer (s : State) : State :=
  if s.noticePlaced || s.restart.isSome then s
  else
    match chosenCause s with
    | some c =>
        if noticeTaken s .ua || noticeTaken s .ub then
          let cell := noticeCell s c
          announce c (placeNotice cell .ub (placeNotice cell .ua s))
        else s
    | none => s

/-- The row NOTICE_OFFER (R192). -/
def execNoticeOffer (s : State) : Host.Outcome State Fault Refusal := .next (noticeOffer s)

end Sys2Proof.Machine
end

