-- ==== Sys2Proof/Machine/Limits.lean ====
section
/-! DEFINITION. The timed events: hold limit, repeat timer, query timeouts, probe-due times, load limit and the frame and
source limits. Each acts only when its time has been reached (log 3). -/

namespace Sys2Proof.Machine

/-- R53: the hold limit, if it has expired in LIVE. -/
def holdLimit (s : State) : State :=
  if s.engine.display = .live ∧ s.expired 3 s.engine.holdStart = true then
    raise .sourceLost none (s.withEngine { s.engine with display := .blanked })
  else s

/-- R46: the repeat interval, if it has expired in IDLE: a repeat scan starts. -/
def repeatLimit (s : State) : State :=
  match s.engine.repeatStart with
  | some t => if s.engine.scan.isNone && s.expired 4 t then beginNext (startScan s) else s
  | none => s

/-- R65, R69: a probe timed out: the next probe of its slot is due one probe interval after the sent time. -/
def probeTimedOut (k : SlotId) (sent : Nat) (s : State) : State :=
  s.withTile k { s.tile k with due := some (.afterProbe sent) }

/-- R65, R73, R152: a sense request timed out: a miss, and on the third the tile is lost. -/
def senseTimedOut (k : SlotId) (s : State) : State :=
  let s1 := recordMiss k s
  if (s1.drift.get k).miss = Config.maxMisses then loseTile k s1 else s1

/-- R65: the query timeout, if the outstanding query is of this kind and its time has elapsed since it was sent. -/
def queryLimit (kind : QueryKind) (s : State) : State :=
  match s.query.outstanding with
  | some q =>
      match q.phase with
      | .sent t =>
          if q.kind = kind ∧ s.expired 6 t = true then
            match kind with
            | .probe => chooseAndBegin (probeTimedOut q.slot t (dropQuery s))
            | .sense => chooseAndBegin (senseTimedOut q.slot (dropQuery s))
          else s
      | .waiting => s
      | .sending => s
  | none => s

/-- R63, R68: an ABSENT slot's probe-due time reached: a choice of the chain query unit follows. -/
def probeReached (k : SlotId) (s : State) : State := if probeIsDue s k then chooseAndBegin s else s

/-- R92: the load limit, if 2000 ms have elapsed since LIB-OPEN. -/
def loadLimit (s : State) : State :=
  match s.load with
  | some l => if Config.loadLimit ≤ s.elapsed l.openedAt then raise .loadAbandoned none (s.withLoad none) else s
  | none => s

/-- The row TRACKER_LIMIT_EXPIRY (R5). -/
def execTrackerLimitExpiry (p : Up) (s : State) : Host.Outcome State Fault Refusal := .next (trackerLimit p s)

/-- The row SOURCE_LOSS_TIME_EXPIRY (R6). -/
def execSourceLossTimeExpiry (p : Up) (s : State) : Host.Outcome State Fault Refusal := .next (sourceLoss p s)

/-- The row FRAME_OPEN_LIMIT_EXPIRY (R40). -/
def execFrameOpenLimitExpiry (s : State) : Host.Outcome State Fault Refusal := .next (receiverLimit s)

/-- The row REPEAT_TIMER_EXPIRY (R46). -/
def execRepeatTimerExpiry (s : State) : Host.Outcome State Fault Refusal := .next (repeatLimit s)

/-- The row HOLD_LIMIT_EXPIRY (R53). -/
def execHoldLimitExpiry (s : State) : Host.Outcome State Fault Refusal := .next (holdLimit s)

/-- The row PROBE_TIMEOUT (R69). -/
def execProbeTimeout (s : State) : Host.Outcome State Fault Refusal := .next (queryLimit .probe s)

/-- The row SENSE_TIMEOUT (R73). -/
def execSenseTimeout (s : State) : Host.Outcome State Fault Refusal := .next (queryLimit .sense s)

/-- The row PROBE_DUE (R68). -/
def execProbeDue (k : SlotId) (s : State) : Host.Outcome State Fault Refusal := .next (probeReached k s)

/-- The row LOAD_LIMIT_EXPIRY (R92). -/
def execLoadLimitExpiry (s : State) : Host.Outcome State Fault Refusal := .next (loadLimit s)

end Sys2Proof.Machine
end

