-- ==== Sys2Proof/Machine/ChainEvents.lean ====
section
/-! DEFINITION. The meanings of the chain's commands: IDENT, SENSE-REPLY and the sent times of queries (Chapter 4). -/

namespace Sys2Proof.Machine

/-- R62, R66: the outstanding query that a reply of a kind, slot and tag answers; its cell must have begun. -/
def answeredQuery (s : State) (kind : QueryKind) (slot : Byte) (tag : W16) : Option SlotId :=
  match s.query.outstanding with
  | some q =>
      if q.kind = kind ∧ q.slot.val = slot.toNat ∧ q.tag = tag ∧ q.phase ≠ .waiting then some q.slot else none
  | none => none

/-- R66, R70: an IDENT taken on D. -/
def takeIdent (tag : W16) (slot : Byte) (f : TileFacts) (s : State) : State :=
  match answeredQuery s .probe slot tag with
  | some k => chooseAndBegin (identify k f (dropQuery s))
  | none => countStray s

/-- R72: an accepted sense reply checked against the stored serial. -/
def acceptReading (k : SlotId) (short : W16) (temperature : W16) (hours : BitVec 24) (s : State) : State :=
  match (s.tile k).facts with
  | some f =>
      if f.serial.setWidth 16 = short then storeReading k temperature.toInt hours.toNat s else loseTile k s
  | none => loseTile k s

/-- R66, R72: a SENSE-REPLY taken on D. -/
def takeSenseReply (tag : W16) (slot : Byte) (short temperature : W16) (hours : BitVec 24) (s : State) : State :=
  match answeredQuery s .sense slot tag with
  | some k => chooseAndBegin (acceptReading k short temperature hours (dropQuery s))
  | none => countStray s

/-- The row IDENT (R66, R70). -/
def execIdent (tag : W16) (slot : Byte) (serial : W64) (width height : W16) (depth : Byte) (hours : BitVec 24)
    (s : State) : Host.Outcome State Fault Refusal :=
  .next (dCell (takeIdent tag slot ⟨serial, width, height, depth, hours⟩) s)

/-- The row SENSE_REPLY (R66, R72). -/
def execSenseReply (tag : W16) (slot : Byte) (short temperature : W16) (hours : BitVec 24) (s : State) :
    Host.Outcome State Fault Refusal :=
  .next (dCell (takeSenseReply tag slot short temperature hours) s)

/-- R62: the last byte of a query's cell leaves: the sent time is fixed, if the query is still outstanding. -/
def fixSent (s : State) : State :=
  match s.query.outstanding with
  | some q =>
      if q.phase = .sending then
        s.withQuery { s.query with outstanding := some { q with phase := .sent s.clock } }
      else s
  | none => s

/-- The D transmitter is free again and begins what is next. -/
def txDone (s : State) : State := beginNext (s.withD { s.d with tx := none })

/-- The row PROBE_SENT (R62). -/
def execProbeSent (s : State) : Host.Outcome State Fault Refusal :=
  .next (if txIs s kindProbe then txDone (fixSent s) else s)

/-- The row SENSE_REQUEST_SENT (R62). -/
def execSenseRequestSent (s : State) : Host.Outcome State Fault Refusal :=
  .next (if txIs s kindSenseRequest then txDone (fixSent s) else s)

end Sys2Proof.Machine
end

