-- ==== Sys2Proof/Machine/Bands.lean ====
section
/-! DEFINITION. READ-BAND and WRITE-BAND (7.1, 7.2). -/

namespace Sys2Proof.Machine

/-- Slot and band bytes as indices, the slot checked first; either out of range is BAD-INDEX (R125, R126). -/
def bandIndex (slot band : Byte) : Option (SlotId × Fin 4) :=
  match slotOf slot with
  | some k => if h : band.toNat < 4 then some (k, ⟨band.toNat, h⟩) else none
  | none => none

/-- R125. -/
def readBandAnswer (slot band : Byte) (s : State) : Answer :=
  match bandIndex slot band with
  | some (k, i) => .ok (slot :: band :: ((s.bands.get k).get i).bytes)
  | none => .refuse .badIndex

/-- R127: whether either gain is clamped. -/
def gainsClamped (e : RawBand) : Bool :=
  decide (clampGain e.startGain ≠ e.startGain) || decide (clampGain e.endGain ≠ e.endGain)

/-- R126, R127. -/
def writeBandBody (slot band : Byte) (e : RawBand) (s : State) : State × Answer :=
  match bandIndex slot band with
  | some (k, i) =>
      match decodeBand e with
      | some b =>
          (s.withBands (s.bands.set k ((s.bands.get k).set i b)),
            .stored (gainsClamped e) (slot :: band :: b.bytes))
      | none => (s, .refuse .badValue)
  | none => (s, .refuse .badIndex)

def readBandReq (p : Up) (tag : W16) (slot band : Byte) : Request :=
  readRequest p tag 0x06 (readBandAnswer slot band)

def writeBandReq (p : Up) (tag : W16) (slot band : Byte) (e : RawBand) : Request :=
  editRequest p tag 0x07 (writeBandBody slot band e)

/-- The row READ_BAND (R125). -/
def execReadBand (p : Up) (tag : W16) (slot band : Byte) (s : State) : Host.Outcome State Fault Refusal :=
  .next (arriveRequest (.readBand p tag slot band) (readBandReq p tag slot band) s)

/-- The row WRITE_BAND (R126). -/
def execWriteBand (p : Up) (tag : W16) (slot band : Byte) (e : RawBand) (s : State) :
    Host.Outcome State Fault Refusal :=
  .next (arriveRequest (.writeBand p tag slot band e) (writeBandReq p tag slot band e) s)

end Sys2Proof.Machine
end

