-- ==== Sys2Proof/Machine/Controls.lean ====
section
/-! DEFINITION. The requests on level, flags, causes, chain and ports, and the unknown request (9.2, 10.3, 10.4, 11.4,
R75, R147, R172, R185). -/

namespace Sys2Proof.Machine

/-! ## Level -/

/-- R163. -/
def setLevelBody (v : W32) (s : State) : State × Answer :=
  let stored := min Config.unity v.toNat
  (s.withLevel { s.level with wall := stored }, .stored (decide (stored ≠ v.toNat)) (beBytes 4 stored))

/-- R166. -/
def readLevelAnswer (s : State) : Answer :=
  .ok (beBytes 4 s.level.wall ++ beBytes 4 s.level.headroom ++ beBytes 4 s.level.effective ++
    [slotByte s.level.limiting])

/-! ## Flags -/

/-- R180: the reply of a flag request: flag number, value before, holder after. -/
def flagAnswer (k : Fin 16) (before : Bool) (holder : Option Up) : Answer :=
  .ok [byte1 k.val, flagByte before, if k = 0 then holderByte holder else 0]

/-- A change of a coordination flag (R179). -/
def changeFlag (k : Fin 16) (v : Bool) (s : State) : State × Answer :=
  (s.withFlags (s.flags.set k v), flagAnswer k (s.flags.get k) none)

/-- R177, R179. -/
def flagTestAnswer (flag : Byte) (s : State) : Answer :=
  match slotOf flag with
  | some k => flagAnswer k (s.flags.get k) s.holder
  | none => .refuse .badIndex

/-- R175: FLAG-SET of flag 0. -/
def setEditFlag (p : Up) (s : State) : State × Answer :=
  if s.flags.get 0 then (s, flagAnswer 0 true s.holder)
  else (takeEditFlag p s, flagAnswer 0 false (some p))

/-- R176: FLAG-CLEAR of flag 0. -/
def clearEditFlag (p : Up) (s : State) : State × Answer :=
  if s.flags.get 0 then
    if s.holder = some p then (dropEditFlag s, flagAnswer 0 true none) else (s, .refuse .notOwner)
  else (s, flagAnswer 0 false none)

/-- R175, R179. -/
def flagSetBody (p : Up) (flag : Byte) (s : State) : State × Answer :=
  match slotOf flag with
  | some k => if k = 0 then setEditFlag p s else changeFlag k true s
  | none => (s, .refuse .badIndex)

/-- R176, R179. -/
def flagClearBody (p : Up) (flag : Byte) (s : State) : State × Answer :=
  match slotOf flag with
  | some k => if k = 0 then clearEditFlag p s else changeFlag k false s
  | none => (s, .refuse .badIndex)

/-- R177, R179. -/
def flagChangeBody (p : Up) (flag : Byte) (s : State) : State × Answer :=
  match slotOf flag with
  | some k =>
      if k = 0 then (if s.flags.get 0 then clearEditFlag p s else setEditFlag p s)
      else changeFlag k (!s.flags.get k) s
  | none => (s, .refuse .badIndex)

/-! ## Causes -/

/-- A set names element `k` (R20). -/
def inSet (set : W16) (k : Fin 16) : Bool := set.getLsbD k.val

/-- R195: the named causes cleared. -/
def clearNamed (set : W16) (s : State) : State :=
  s.withCauses (Table.tabulate fun c => if inSet set c then (s.causes.get c).cleared else s.causes.get c)

/-- R56: every peak limit count set to 0. -/
def clearPeaks (s : State) : State := s.withCounts (s.counts.map fun c => { c with peak := 0 })

/-- R195, R56. -/
def clearCausesBody (set : W16) (s : State) : State × Answer :=
  let s1 := clearNamed set s
  (if inSet set Cause.pixelLimit.number then clearPeaks s1 else s1, .ok (be16 set))

/-- R197. -/
def readCausesAnswer (s : State) : Answer := .ok (causeTable s)

/-- R196. -/
def writeCauseControlBody (cause enable level : Byte) (s : State) : State × Answer :=
  match slotOf cause with
  | some c =>
      match flagOf enable with
      | some e =>
          let stored := min 3 level.toNat
          (s.withCauses (s.causes.set c { s.causes.get c with enable := e, level := stored }),
            .stored (decide (stored ≠ level.toNat)) [cause, enable, byte1 stored])
      | none => (s, .refuse .badValue)
  | none => (s, .refuse .badIndex)

/-! ## Chain -/

/-- A probe is outstanding for the slot (R75). -/
def probeOutstanding (s : State) (k : SlotId) : Bool :=
  match s.query.outstanding with
  | some q => decide (q.kind = .probe) && decide (q.slot = k)
  | none => false

/-- R75: one named slot. -/
def probeNamed (k : SlotId) (s : State) : State :=
  match (s.tile k).presence with
  | .empty => s
  | .absent =>
      if probeOutstanding s k then s else s.withTile k { s.tile k with due := some (.instant s.clock) }
  | .matched => loseIdentity k s
  | .unknown => loseIdentity k s
  | .misfit => loseIdentity k s

/-- R75. -/
def probeSlotsBody (set : W16) (s : State) : State × Answer :=
  (chooseAndBegin (forSlots (fun k acc => if inSet set k then probeNamed k acc else acc) s), .ok (be16 set))

/-- R147. -/
def senseSlotBody (slot : Byte) (s : State) : State × Answer :=
  match slotOf slot with
  | some k =>
      if !(s.tile k).presence.identified then (s, .refuse .badValue)
      else if k ∈ s.query.senseList then (s, .ok [slot])
      else
        (chooseAndBegin (s.withQuery { s.query with senseList := s.query.senseList ++ [k] }), .ok [slot])
  | none => (s, .refuse .badIndex)

/-! ## Ports and unknown requests -/

/-- R185. -/
def readPortsAnswer (s : State) : Answer := .ok (portRecord s)

def setLevelReq (p : Up) (tag : W16) (v : W32) : Request := editRequest p tag 0x0F (setLevelBody v)
def readLevelReq (p : Up) (tag : W16) : Request := readRequest p tag 0x10 readLevelAnswer
def flagTestReq (p : Up) (tag : W16) (flag : Byte) : Request := readRequest p tag 0x11 (flagTestAnswer flag)
def flagSetReq (p : Up) (tag : W16) (flag : Byte) : Request := flagRequest p tag 0x12 (flagSetBody p flag)
def flagClearReq (p : Up) (tag : W16) (flag : Byte) : Request := flagRequest p tag 0x13 (flagClearBody p flag)
def flagChangeReq (p : Up) (tag : W16) (flag : Byte) : Request := flagRequest p tag 0x14 (flagChangeBody p flag)
def readCausesReq (p : Up) (tag : W16) : Request := readRequest p tag 0x15 readCausesAnswer
def clearCausesReq (p : Up) (tag : W16) (set : W16) : Request := editRequest p tag 0x16 (clearCausesBody set)

def writeCauseControlReq (p : Up) (tag : W16) (cause enable level : Byte) : Request :=
  editRequest p tag 0x17 (writeCauseControlBody cause enable level)

def probeSlotsReq (p : Up) (tag : W16) (set : W16) : Request := editRequest p tag 0x18 (probeSlotsBody set)
def senseSlotReq (p : Up) (tag : W16) (slot : Byte) : Request := editRequest p tag 0x19 (senseSlotBody slot)
def readPortsReq (p : Up) (tag : W16) : Request := readRequest p tag 0x1A readPortsAnswer

/-- R172: an unknown code, or operands of the wrong length for a known one; the reply carries the code as received. -/
def unknownReq (p : Up) (tag : W16) (code : Byte) : Request :=
  readRequest p tag code fun _ => .refuse .badRequest

/-- The row SET_LEVEL (R163). -/
def execSetLevel (p : Up) (tag : W16) (v : W32) (s : State) : Host.Outcome State Fault Refusal :=
  .next (arriveRequest (.setLevel p tag v) (setLevelReq p tag v) s)

/-- The row READ_LEVEL (R166). -/
def execReadLevel (p : Up) (tag : W16) (s : State) : Host.Outcome State Fault Refusal :=
  .next (arriveRequest (.readLevel p tag) (readLevelReq p tag) s)

/-- The row FLAG_TEST (R177). -/
def execFlagTest (p : Up) (tag : W16) (flag : Byte) (s : State) : Host.Outcome State Fault Refusal :=
  .next (arriveRequest (.flagTest p tag flag) (flagTestReq p tag flag) s)

/-- The row FLAG_SET (R175). -/
def execFlagSet (p : Up) (tag : W16) (flag : Byte) (s : State) : Host.Outcome State Fault Refusal :=
  .next (arriveRequest (.flagSet p tag flag) (flagSetReq p tag flag) s)

/-- The row FLAG_CLEAR (R176). -/
def execFlagClear (p : Up) (tag : W16) (flag : Byte) (s : State) : Host.Outcome State Fault Refusal :=
  .next (arriveRequest (.flagClear p tag flag) (flagClearReq p tag flag) s)

/-- The row FLAG_CHANGE (R177). -/
def execFlagChange (p : Up) (tag : W16) (flag : Byte) (s : State) : Host.Outcome State Fault Refusal :=
  .next (arriveRequest (.flagChange p tag flag) (flagChangeReq p tag flag) s)

/-- The row READ_CAUSES (R197). -/
def execReadCauses (p : Up) (tag : W16) (s : State) : Host.Outcome State Fault Refusal :=
  .next (arriveRequest (.readCauses p tag) (readCausesReq p tag) s)

/-- The row CLEAR_CAUSES (R195). -/
def execClearCauses (p : Up) (tag : W16) (set : W16) (s : State) : Host.Outcome State Fault Refusal :=
  .next (arriveRequest (.clearCauses p tag set) (clearCausesReq p tag set) s)

/-- The row WRITE_CAUSE_CONTROL (R196). -/
def execWriteCauseControl (p : Up) (tag : W16) (cause enable level : Byte) (s : State) :
    Host.Outcome State Fault Refusal :=
  .next (arriveRequest (.writeCauseControl p tag cause enable level) (writeCauseControlReq p tag cause enable level) s)

/-- The row PROBE_SLOTS (R75). -/
def execProbeSlots (p : Up) (tag : W16) (set : W16) (s : State) : Host.Outcome State Fault Refusal :=
  .next (arriveRequest (.probeSlots p tag set) (probeSlotsReq p tag set) s)

/-- The row SENSE_SLOT (R147). -/
def execSenseSlot (p : Up) (tag : W16) (slot : Byte) (s : State) : Host.Outcome State Fault Refusal :=
  .next (arriveRequest (.senseSlot p tag slot) (senseSlotReq p tag slot) s)

/-- The row READ_PORTS (R185). -/
def execReadPorts (p : Up) (tag : W16) (s : State) : Host.Outcome State Fault Refusal :=
  .next (arriveRequest (.readPorts p tag) (readPortsReq p tag) s)

/-- The row UNKNOWN_REQUEST (R172). -/
def execUnknownRequest (p : Up) (tag : W16) (code : Byte) (operands : List Byte) (s : State) :
    Host.Outcome State Fault Refusal :=
  .next (arriveRequest (.unknownRequest p tag code operands) (unknownReq p tag code) s)

end Sys2Proof.Machine
end

