-- ==== Sys2Proof/Machine/Library.lean ====
section
/-! DEFINITION. The calibration library's requests: the load protocol, deletion and reading (Chapter 5). -/

namespace Sys2Proof.Machine

/-- R81: the defect entries of all records held. -/
def poolUsed (records : List Record) : Nat := (records.map recDefects).sum

/-- R81: the free pool. -/
def freePool (records : List Record) : Nat := Config.defectPool - poolUsed records

/-- R80: the length of a record with n defects. -/
def recordLength (n : Nat) : Nat := 31 + 3 * n

/-- R82: the library index of an identity; the number of records held when it is not held. -/
def recordIndex (records : List Record) (id : W64) : Nat := records.findIdx fun r => recIdentity r == id

/-- The pointer of a reply: two bytes; 65,535 when no load is open (R86, R87). -/
def pointerBytes : Option Load → List Byte
  | some l => beBytes 2 l.words.length
  | none => beBytes 2 65535

/-! ## The field checks of LIB-CLOSE (R88) -/

/-- The 16-bit word `i` (0 to 3) of an identity, most significant first. -/
def identityWord (id : W64) (i : Nat) : W16 := (id >>> (16 * (3 - i))).setWidth 16

/-- Defect `i` names the line and column of an earlier defect. -/
def duplicateDefect (r : Record) (i : Nat) : Bool :=
  (List.range i).any fun j =>
    recWord r (31 + 3 * j) == recWord r (31 + 3 * i) && recWord r (32 + 3 * j) == recWord r (32 + 3 * i)

/-- A signed range check. -/
def within (lo hi v : Int) : Bool := decide (lo ≤ v) && decide (v ≤ hi)

/-- R88: whether the word at offset `i` passes, in a load for identity `id`. -/
def wordPasses (id : W64) (r : Record) (i : Nat) : Bool :=
  if i ≤ 3 then recWord r i == identityWord id i
  else if i ≤ 5 then sizeOk (recNat r i)
  else if i ≤ 8 then decide (recNat r i ≤ 255)
  else if i ≤ 17 then within (-8192) 8191 (recInt r i)
  else if i ≤ 20 then decide (recNat r i ≤ 8191)
  else if i = 21 then within (-160) 500 (recInt r i)
  else if i ≤ 24 then within (-12000) 12000 (recInt r i)
  else if i = 25 then decide (recNat r i ≤ 255)
  else if i = 26 then true
  else if i ≤ 29 then decide (recNat r i ≤ 2000)
  else if i = 30 then true
  else
    match (i - 31) % 3 with
    | 0 => decide (recNat r i < recHeight r)
    | 1 => decide (recNat r i < recWidth r) && !duplicateDefect r ((i - 31) / 3)
    | _ => decide (recNat r i = 1) || decide (recNat r i = 2)

/-- R88: the offset of the first word that fails. -/
def firstBadWord (id : W64) (r : Record) : Option Nat :=
  (List.range r.length).find? fun i => !wordPasses id r i

/-- R89: the room a record of an identity has in the defect pool. -/
def poolRoom (records : List Record) (id : W64) : Nat :=
  freePool records +
  match findRecord records id with
  | some r => recDefects r
  | none => 0

/-- R89: the library as it stands has no place for a record of an identity. -/
def libraryFull (records : List Record) (id : W64) (r : Record) : Bool :=
  ((findRecord records id).isNone && decide (Config.maxRecords ≤ records.length)) ||
  decide (poolRoom records id < recDefects r)

/-- R90: a record installed at the last index, or put in place of the one held. -/
def putRecord (records : List Record) (id : W64) (r : Record) : List Record :=
  if (findRecord records id).isSome then records.set (recordIndex records id) r else records ++ [r]

/-! ## Requests -/

/-- R85. -/
def libOpenBody (p : Up) (id : W64) (s : State) : State × Answer :=
  if s.load.isSome then (s, .refuse .busy)
  else if id = 0 then (s, .refuse .badValue)
  else (s.withLoad (some ⟨p, id, [], s.clock⟩), .ok (beBytes 8 id.toNat))

/-- R86. -/
def libPutBody (p : Up) (pointer : W16) (words : List W16) (s : State) : State × Answer :=
  match s.load with
  | none => (s, ⟨.sequence, pointerBytes none⟩)
  | some l =>
      if l.owner ≠ p then (s, .refuse .busy)
      else if pointer.toNat ≠ l.words.length then (s, ⟨.sequence, pointerBytes (some l)⟩)
      else if Config.maxWords < l.words.length + words.length then (s, .refuse .badValue)
      else
        let l1 := { l with words := l.words ++ words }
        (s.withLoad (some l1), .ok (pointerBytes (some l1)))

/-- R87, R88, R89: why a close is refused: the outcome, its reply data, and whether the load is abandoned. -/
structure CloseRefusal where
  outcome : ReqOutcome
  data : List Byte
  abandons : Bool
deriving DecidableEq, Repr

/-- R87 cases 3 to 6, R88, R89: the first check that a load fails. -/
def closeRefusal (records : List Record) (l : Load) : Option CloseRefusal :=
  let n := recDefects l.words
  let len := l.words.length
  if len < 31 then some ⟨.incomplete, pointerBytes (some l), false⟩
  else if 64 < n then some ⟨.badValue, beBytes 2 30, true⟩
  else if len < recordLength n then some ⟨.incomplete, pointerBytes (some l), false⟩
  else if recordLength n < len then some ⟨.badValue, beBytes 2 (recordLength n), true⟩
  else
    match firstBadWord l.identity l.words with
    | some i => some ⟨.badValue, beBytes 2 i, true⟩
    | none => if libraryFull records l.identity l.words then some ⟨.full, [], true⟩ else none

/-- R90: the load's record put in the library and handed to the slot table. -/
def installLoad (l : Load) (s : State) : State :=
  applyLibraryChange l.identity
    ((s.withLoad none).withRecords (putRecord s.records l.identity l.words))

/-- R87 to R90. -/
def libCloseBody (p : Up) (s : State) : State × Answer :=
  match s.load with
  | none => (s, ⟨.sequence, pointerBytes none⟩)
  | some l =>
      if l.owner ≠ p then (s, .refuse .busy)
      else
        match closeRefusal s.records l with
        | some c => (if c.abandons then s.withLoad none else s, ⟨c.outcome, c.data⟩)
        | none => (installLoad l s, .ok [byte1 (recordIndex s.records l.identity)])

/-- R91. -/
def libAbortBody (p : Up) (s : State) : State × Answer :=
  match s.load with
  | none => (s, .ok [])
  | some l => if l.owner ≠ p then (s, .refuse .busy) else (s.withLoad none, .ok [])

/-- R94. -/
def libDeleteBody (id : W64) (s : State) : State × Answer :=
  if (findRecord s.records id).isSome then
    (applyLibraryChange id (s.withRecords (s.records.eraseIdx (recordIndex s.records id))), .ok (beBytes 8 id.toNat))
  else (s, .refuse .noRecord)

/-- R95. -/
def libReadAnswer (id : W64) (first : W16) (count : Byte) (s : State) : Answer :=
  if count.toNat = 0 ∨ 64 < count.toNat then .refuse .badValue
  else
    match findRecord s.records id with
    | none => .refuse .noRecord
    | some r =>
        if r.length ≤ first.toNat then .refuse .badIndex
        else
          let ws := (r.drop first.toNat).take count.toNat
          .ok (be16 first ++ [byte1 ws.length] ++ ws.flatMap be16)

/-- R96. -/
def libListAnswer (first count : Byte) (s : State) : Answer :=
  if 47 < first.toNat then .refuse .badIndex
  else if count.toNat = 0 ∨ 48 < count.toNat then .refuse .badValue
  else
    .ok ([byte1 s.records.length, first] ++
      ((s.records.drop first.toNat).take count.toNat).flatMap fun r => beBytes 8 (recIdentity r).toNat)

def libOpenReq (p : Up) (tag : W16) (id : W64) : Request := editRequest p tag 0x08 (libOpenBody p id)

/-- LIB-PUT: its form, 1 to 64 words, is judged before ownership (R171, R172). -/
def libPutReq (p : Up) (tag : W16) (pointer : W16) (words : List W16) : Request :=
  if words.length = 0 ∨ 64 < words.length then readRequest p tag 0x09 fun _ => .refuse .badRequest
  else editRequest p tag 0x09 (libPutBody p pointer words)

def libCloseReq (p : Up) (tag : W16) : Request := editRequest p tag 0x0A (libCloseBody p)

def libAbortReq (p : Up) (tag : W16) : Request := editRequest p tag 0x0B (libAbortBody p)

def libDeleteReq (p : Up) (tag : W16) (id : W64) : Request := editRequest p tag 0x0C (libDeleteBody id)

def libReadReq (p : Up) (tag : W16) (id : W64) (first : W16) (count : Byte) : Request :=
  readRequest p tag 0x0D (libReadAnswer id first count)

def libListReq (p : Up) (tag : W16) (first count : Byte) : Request :=
  readRequest p tag 0x0E (libListAnswer first count)

/-- The row LIB_OPEN (R85). -/
def execLibOpen (p : Up) (tag : W16) (id : W64) (s : State) : Host.Outcome State Fault Refusal :=
  .next (arriveRequest (.libOpen p tag id) (libOpenReq p tag id) s)

/-- The row LIB_PUT (R86). -/
def execLibPut (p : Up) (tag : W16) (pointer : W16) (words : List W16) (s : State) :
    Host.Outcome State Fault Refusal :=
  .next (arriveRequest (.libPut p tag pointer words) (libPutReq p tag pointer words) s)

/-- The row LIB_CLOSE (R87 to R90). -/
def execLibClose (p : Up) (tag : W16) (s : State) : Host.Outcome State Fault Refusal :=
  .next (arriveRequest (.libClose p tag) (libCloseReq p tag) s)

/-- The row LIB_ABORT (R91). -/
def execLibAbort (p : Up) (tag : W16) (s : State) : Host.Outcome State Fault Refusal :=
  .next (arriveRequest (.libAbort p tag) (libAbortReq p tag) s)

/-- The row LIB_DELETE (R94). -/
def execLibDelete (p : Up) (tag : W16) (id : W64) (s : State) : Host.Outcome State Fault Refusal :=
  .next (arriveRequest (.libDelete p tag id) (libDeleteReq p tag id) s)

/-- The row LIB_READ (R95). -/
def execLibRead (p : Up) (tag : W16) (id : W64) (first : W16) (count : Byte) (s : State) :
    Host.Outcome State Fault Refusal :=
  .next (arriveRequest (.libRead p tag id first count) (libReadReq p tag id first count) s)

/-- The row LIB_LIST (R96). -/
def execLibList (p : Up) (tag : W16) (first count : Byte) (s : State) : Host.Outcome State Fault Refusal :=
  .next (arriveRequest (.libList p tag first count) (libListReq p tag first count) s)

end Sys2Proof.Machine
end

