-- ==== Sys2Proof/Machine/Plans.lean ====
section
/-! DEFINITION. READ-PLAN, WRITE-PLAN and READ-SLOT (2.1 to 2.3, 10.6). -/

namespace Sys2Proof.Machine

/-- R23. -/
def readPlanAnswer (slot : Byte) (s : State) : Answer :=
  match slotOf slot with
  | some k => .ok (slot :: (s.plans.get k).bytes)
  | none => .refuse .badIndex

/-- R184. -/
def readSlotAnswer (slot : Byte) (s : State) : Answer :=
  match slotOf slot with
  | some k => .ok (slotRecord s k)
  | none => .refuse .badIndex

/-- Check 3 of R25: the footprint lies on the canvas. -/
def onCanvas (p : Plan) : Bool :=
  match p with
  | .canvas c => decide (c.line + c.height ≤ Config.canvasSize) && decide (c.column + c.width ≤ Config.canvasSize)
  | _ => true

/-- Check 4 of R25: a MIRROR's target is another slot whose present plan is CANVAS. -/
def targetOk (plans : Table Plan 16) (k : SlotId) (p : Plan) : Bool :=
  match p with
  | .mirror _ t => decide (t ≠ k) && (plans.get t).isCanvas
  | _ => true

/-- Checks 3 to 6 of R25, in order: the outcome of the first that fails. -/
def planRefusal (plans : Table Plan 16) (k : SlotId) (p : Plan) : Option ReqOutcome :=
  if !onCanvas p then some .badValue
  else if !targetOk plans k p then some .badValue
  else if overlapsOthers plans k p then some .overlap
  else if p.isCanvas && decide (Config.canvasArea < totalArea (plans.set k p)) then some .full
  else none

/-- R29: a change of geometry resets the slot's images: black for a CANVAS entry, released for any other. -/
def resetImages (k : SlotId) (s : State) : State :=
  (s.withShown (s.shown.set k [])).withIncoming (s.incoming.set k [])

/-- R30: the change of presence of an accepted write, the new entry in place. -/
def planPresence (k : SlotId) (p : Plan) (s : State) : State :=
  match (s.tile k).presence with
  | .empty => if p = .none then s else becomeAbsent k s
  | .absent => if p = .none then becomeEmpty k s else s
  | _ => if p = .none then becomeEmpty k s else reevaluate k s

/-- R31: MISFIT raised for each slot that mirrors slot `k`, ascending. -/
def raiseMirrors (k : SlotId) (s : State) : State :=
  forSlots (fun j acc =>
    match acc.plans.get j with
    | .mirror _ t => if t = k then raise .misfit (some j) acc else acc
    | _ => acc) s

/-- R28 to R31: an accepted write. A write of the present entry has no further effect. -/
def acceptPlan (k : SlotId) (p : Plan) (s : State) : State :=
  let old := s.plans.get k
  if old = p then s
  else
    let s1 := s.withPlans (s.plans.set k p)
    let s2 := if geometryChanged old p then resetImages k s1 else s1
    let s3 := planPresence k p s2
    let s4 := if old.isCanvas && !p.isCanvas then raiseMirrors k s3 else s3
    chooseAndBegin s4

/-- R25, R28: WRITE-PLAN. -/
def writePlanBody (slot : Byte) (e : RawPlan) (s : State) : State × Answer :=
  match slotOf slot with
  | some k =>
      match decodePlan e with
      | some p =>
          match planRefusal s.plans k p with
          | some o => (s, .refuse o)
          | none => (acceptPlan k p s, .ok (slot :: p.bytes))
      | none => (s, .refuse .badValue)
  | none => (s, .refuse .badIndex)

def readPlanReq (p : Up) (tag : W16) (slot : Byte) : Request := readRequest p tag 0x03 (readPlanAnswer slot)

def writePlanReq (p : Up) (tag : W16) (slot : Byte) (e : RawPlan) : Request :=
  editRequest p tag 0x04 (writePlanBody slot e)

def readSlotReq (p : Up) (tag : W16) (slot : Byte) : Request := readRequest p tag 0x05 (readSlotAnswer slot)

/-- The row READ_PLAN (R23). -/
def execReadPlan (p : Up) (tag : W16) (slot : Byte) (s : State) : Host.Outcome State Fault Refusal :=
  .next (arriveRequest (.readPlan p tag slot) (readPlanReq p tag slot) s)

/-- The row WRITE_PLAN (R25). -/
def execWritePlan (p : Up) (tag : W16) (slot : Byte) (e : RawPlan) (s : State) : Host.Outcome State Fault Refusal :=
  .next (arriveRequest (.writePlan p tag slot e) (writePlanReq p tag slot e) s)

/-- The row READ_SLOT (R184). -/
def execReadSlot (p : Up) (tag : W16) (slot : Byte) (s : State) : Host.Outcome State Fault Refusal :=
  .next (arriveRequest (.readSlot p tag slot) (readSlotReq p tag slot) s)

end Sys2Proof.Machine
end

