-- ==== Sys2Proof/Machine/ScanEvents.lean ====
section
/-! DEFINITION. The meanings of the scan's commands: TILE-PIXELS sent, scan end, BLANKn (Chapter 3). -/

namespace Sys2Proof.Machine

/-- R55: the limit counts of one slot completed. -/
def completeCount (sc : Scan) (k : SlotId) (s : State) : State :=
  let n := if (sc.binding.slots.get k).sent.isSome then min 65535 (sc.running.get k) else 0
  let s1 := s.withCounts (s.counts.set k ⟨n, max (s.counts.get k).peak n⟩)
  if sc.binding.limitThreshold < n then raise .pixelLimit (some k) s1 else s1

/-- R55: the limit counts of the scan completed for every slot in ascending order. -/
def completeCounts (s : State) : State :=
  match s.engine.scan with
  | some sc => forSlots (completeCount sc) s
  | none => s

/-- R145: the divider count at a scan end. -/
def countScanEnd (s : State) : State :=
  if s.settingNat 7 ≤ s.query.divider + 1 then s.withQuery { s.query with divider := 0, roundDue := true }
  else s.withQuery { s.query with divider := s.query.divider + 1 }

/-- R45: at a scan end, a READY frame is swapped in and a new scan starts; without one the engine is IDLE with the repeat
timer started. -/
def afterScan (s : State) : State :=
  let s1 := abortScan s
  if s1.receiver.ready then startScan s1 else s1.withEngine { s1.engine with repeatStart := some s1.clock }

/-- R45: BLANKn assertions that waited for this scan end act on the engine it left (log 9). -/
def takeDeferredBlanks (s : State) : State :=
  blankRestarts s.engine.deferredBlanks (s.withEngine { s.engine with deferredBlanks := 0 })

/-- R186: a waiting restart is due from this scan end on. -/
def markScanEnded (s : State) : State := s.withRestart (s.restart.map fun w => { w with scanEnded := true })

/-- R45, R55, R63, R145: the scan end, in order: limit counts, divider, the choice in which senses are allowed, the swap
or the repeat timer, waiting assertions. -/
def endScan (s : State) : State :=
  let s1 := completeCounts (s.withD { s.d with tx := none })
  beginNext (markScanEnded (takeDeferredBlanks (afterScan (chooseQuery true (countScanEnd s1)))))

/-- The row SCAN_END (R45): the last byte of TILE-SHOW leaves. -/
def execScanEnd (s : State) : Host.Outcome State Fault Refusal :=
  .next (if showBegun s then endScan s else s)

/-- The row TILE_PIXELS_SENT (R50): the next line is formed when the last cell of one has left (log 14). -/
def execTilePixelsSent (s : State) : Host.Outcome State Fault Refusal :=
  .next (if txIs s kindTilePixels then beginNext (formIfNeeded (s.withD { s.d with tx := none })) else s)

/-- R45, R54: an assertion of BLANKn. While a TILE-SHOW is in transmission it waits for the scan end, behind a restart
that already waits for it (log 9). One taken between the scan end and that restart acts at once, and the restart then
aborts its scan (log 28: the model's choice). -/
def assertBlank (s : State) : State :=
  let s1 := s.withEngine { s.engine with blank := true }
  if showBegun s1 then
    match s1.restart with
    | some w => s1.withRestart (some { w with blanks := w.blanks + 1 })
    | none => s1.withEngine { s1.engine with deferredBlanks := s1.engine.deferredBlanks + 1 }
  else beginNext (blankRestart s1)

/-- The row BLANKN_ASSERTION (R54): a change of the line from deasserted to asserted. -/
def execBlanknAssertion (s : State) : Host.Outcome State Fault Refusal :=
  .next (if s.engine.blank then s else assertBlank s)

/-- The row BLANKN_DEASSERTION (R54): nothing changes but the line. -/
def execBlanknDeassertion (s : State) : Host.Outcome State Fault Refusal :=
  .next (s.withEngine { s.engine with blank := false })

end Sys2Proof.Machine
end

