-- ==== Sys2Proof/Machine/Settings.lean ====
section
/-! DEFINITION. READ-SETTING and WRITE-SETTING (10.5). -/

namespace Sys2Proof.Machine

/-- A setting number byte as a setting, if it is 0 to 16. -/
def settingOf (b : Byte) : Option SettingId :=
  if h : b.toNat < 17 then some ⟨b.toNat, h⟩ else none

/-- Setting number and signed value, as the replies carry them (Table 1-3). -/
def settingBytes (n : SettingId) (v : Int) : List Byte := byte1 n.val :: beBytes 4 (BitVec.ofInt 32 v).toNat

/-- R181. -/
def readSettingAnswer (n : Byte) (s : State) : Answer :=
  match settingOf n with
  | some k => .ok (settingBytes k (s.setting k))
  | none => .refuse .badIndex

/-- R142: the targets of every UNKNOWN slot computed afresh, ascending. -/
def computeUnknownTargets (s : State) : State :=
  forSlots (fun k acc => if (acc.tile k).presence = .unknown then computeTargets k acc else acc) s

/-- R182: what the owning block does at a write of a setting (the table of 10.5). -/
def settingEffect (n : SettingId) (s : State) : State :=
  match n.val with
  | 0 => settle s
  | 1 => sourceLossBoth s
  | 2 => receiverLimit (trackerLimit .ub (trackerLimit .ua s))
  | 3 => holdLimit s
  | 4 => repeatLimit s
  | 5 => chooseAndBegin s
  | 6 => queryLimit .sense (queryLimit .probe s)
  | 12 => computeUnknownTargets s
  | 13 => computeUnknownTargets s
  | 14 => computeUnknownTargets s
  | _ => s

/-- R182: a value stored, with its effects. -/
def storeSetting (n : SettingId) (v : Int) (s : State) : State :=
  settingEffect n (s.withSettings (s.settings.set n v))

/-- R182: the value a write stores, none when a choice is out of its range. -/
def settingStored (n : SettingId) (v : Int) : Option Int :=
  let row := settingRow n
  if settingIsChoice n then (if row.lo ≤ v ∧ v ≤ row.hi then some v else none)
  else some (clampInt row.lo row.hi v)

/-- R182. -/
def writeSettingBody (n : Byte) (value : W32) (s : State) : State × Answer :=
  match settingOf n with
  | some k =>
      match settingStored k value.toInt with
      | some v => (storeSetting k v s, .stored (decide (v ≠ value.toInt)) (settingBytes k v))
      | none => (s, .refuse .badValue)
  | none => (s, .refuse .badIndex)

def readSettingReq (p : Up) (tag : W16) (n : Byte) : Request := readRequest p tag 0x01 (readSettingAnswer n)

def writeSettingReq (p : Up) (tag : W16) (n : Byte) (value : W32) : Request :=
  editRequest p tag 0x02 (writeSettingBody n value)

/-- The row READ_SETTING (R181). -/
def execReadSetting (p : Up) (tag : W16) (n : Byte) (s : State) : Host.Outcome State Fault Refusal :=
  .next (arriveRequest (.readSetting p tag n) (readSettingReq p tag n) s)

/-- The row WRITE_SETTING (R182). -/
def execWriteSetting (p : Up) (tag : W16) (n : Byte) (value : W32) (s : State) : Host.Outcome State Fault Refusal :=
  .next (arriveRequest (.writeSetting p tag n value) (writeSettingReq p tag n value) s)

end Sys2Proof.Machine
end

