-- ==== Sys2Proof/Machine/Restart.lean ====
section
/-! DEFINITION. RESTART, the deferred restart and power reset (10.7, R18, R186, R187). -/

namespace Sys2Proof.Machine

/-! ## Restart values, block by block (R186 step 1) -/

/-- R44: the receiver IDLE without a READY frame, every image black. -/
def restartFrames (s : State) : State :=
  ((s.withReceiver ⟨.idle, false⟩).withIncoming (Table.replicate 16 [])).withShown (Table.replicate 16 [])

/-- R58, R122: the scan aborted, IDLE, both timers started, LIVE, limit counts 0. -/
def restartEngine (s : State) : State :=
  (s.withEngine
    { s.engine with scan := none, display := .live, repeatStart := some s.clock, holdStart := s.clock }).withCounts
    (Table.replicate 16 ⟨0, 0⟩)

/-- R79: a slot that is not EMPTY becomes ABSENT with its probe due at the restart. -/
def restartTile (now : Nat) (t : Tile) : Tile :=
  if t.presence = .empty then t else ⟨.absent, none, some (.instant now)⟩

/-- R79, R158: slots ABSENT, the query dropped, the sense list emptied, pointer and divider count 0, no sense due. -/
def restartChain (s : State) : State :=
  (s.withTiles (s.tiles.map (restartTile s.clock))).withQuery
    { s.query with outstanding := none, senseList := [], pointer := 0, roundDue := false, divider := 0 }

/-- R158: every drift record at its reset value. -/
def restartDrift (s : State) : State := s.withDrift (Table.replicate 16 Drift.reset)

/-- R186 step 1: every block takes its restart values; R100: an open load is abandoned without a cause. -/
def restartBlocks (s : State) : State :=
  (restartDrift (restartChain (restartEngine (restartFrames s)))).withLoad none

/-- R186 step 2, R200: every cause cleared, enables and levels kept. -/
def clearAllCauses (s : State) : State := s.withCauses (s.causes.map CauseEntry.cleared)

/-- R186: the three steps of a restart; the first probes then go out if port D is ALIGNED (R79, R187). -/
def restartPart (s : State) : State := chooseAndBegin (carrySwitch (clearAllCauses (restartBlocks s)))

/-- R186: RESTART is carried out at once, or waits for the scan end when the TILE-SHOW has begun. -/
def restartBody (p : Up) (tag : W16) (s : State) : State × Option Answer :=
  if showBegun s then (s.withRestart (some ⟨p, tag, false, false, 0⟩), none)
  else (restartPart s, some (.ok []))

def restartReq (p : Up) (tag : W16) : Request :=
  ⟨p, tag, 0x1B, fun s =>
    if editRefused s p then (s, some (.refuse .notOwner)) else restartBody p tag s⟩

/-- The row RESTART (R186). -/
def execRestart (p : Up) (tag : W16) (s : State) : Host.Outcome State Fault Refusal :=
  .next (arriveRequest (.restart p tag) (restartReq p tag) s)

/-! ## The deferred restart -/

/-- The request a command is, none for the other commands. -/
def requestOf : Instr → Option Request
  | .readSetting p t n => some (readSettingReq p t n)
  | .writeSetting p t n v => some (writeSettingReq p t n v)
  | .readPlan p t k => some (readPlanReq p t k)
  | .writePlan p t k e => some (writePlanReq p t k e)
  | .readSlot p t k => some (readSlotReq p t k)
  | .readBand p t k b => some (readBandReq p t k b)
  | .writeBand p t k b e => some (writeBandReq p t k b e)
  | .libOpen p t id => some (libOpenReq p t id)
  | .libPut p t ptr ws => some (libPutReq p t ptr ws)
  | .libClose p t => some (libCloseReq p t)
  | .libAbort p t => some (libAbortReq p t)
  | .libDelete p t id => some (libDeleteReq p t id)
  | .libRead p t id f c => some (libReadReq p t id f c)
  | .libList p t f c => some (libListReq p t f c)
  | .setLevel p t v => some (setLevelReq p t v)
  | .readLevel p t => some (readLevelReq p t)
  | .flagTest p t f => some (flagTestReq p t f)
  | .flagSet p t f => some (flagSetReq p t f)
  | .flagClear p t f => some (flagClearReq p t f)
  | .flagChange p t f => some (flagChangeReq p t f)
  | .readCauses p t => some (readCausesReq p t)
  | .clearCauses p t c => some (clearCausesReq p t c)
  | .writeCauseControl p t c e l => some (writeCauseControlReq p t c e l)
  | .probeSlots p t k => some (probeSlotsReq p t k)
  | .senseSlot p t k => some (senseSlotReq p t k)
  | .readPorts p t => some (readPortsReq p t)
  | .restart p t => some (restartReq p t)
  | .unknownRequest p t c _ => some (unknownReq p t c)
  | _ => none

/-- R186: a request that waited is taken, subject to R15 at its taking. -/
def takeWaiting (s : State) (i : Instr) : State :=
  match requestOf i with
  | some r => takeRequest i r s
  | none => s

/-- R187: the reply to a deferred RESTART, not placed in the queue of a port that entered DOWN (R186, log 12). -/
def replyRestart (w : RestartWait) (s : State) : State :=
  if w.replyLost || !s.takesCells w.port then s
  else s.enqueue w.port (replyCell w.tag 0x1B (.ok []))

/-- R186, R187: a restart whose scan has ended is carried out and its reply queued. The BLANKn assertions kept during the
wait act next (log 9), before the requests that waited (log 26: the model's choice, R169 leaves the order open), which are
taken in order of arrival across the ports (log 11), all in this step, so that a notice due after the restart is offered
behind the last of them (log 30: the model's choice). -/
def deferredRestart (s : State) : State :=
  match s.restart with
  | some w =>
      if w.scanEnded then
        let s1 := replyRestart w (restartPart ((s.withRestart none).withWaiting []))
        s.waiting.foldl takeWaiting (beginNext (blankRestarts w.blanks s1))
      else s
  | none => s

/-- The row RESTART_AT_SCAN_END (R186). -/
def execRestartAtScanEnd (s : State) : Host.Outcome State Fault Refusal := .next (deferredRestart s)

/-! ## Power reset -/

/-- The row POWER_RESET (R18 and the other reset rules): every block at its power-reset values. The BLANKn line is an
input and stays as it stands (R54, log 6). -/
def execPowerReset (s : State) : Host.Outcome State Fault Refusal :=
  .next ((State.reset.withPending s.pending).withEngine { Engine.reset with blank := s.engine.blank })

end Sys2Proof.Machine
end

