-- ==== Sys2Proof/Machine/Tick.lean ====
section
/-! DEFINITION. What happens when no command waits: the expiries due in this millisecond are taken, then the part time
advances by one (log 2). -/

namespace Sys2Proof.Machine

/-- A choice of the chain query unit if some slot's probe is due (R63, R68). -/
def probesReached (s : State) : State := if allSlots.any (probeIsDue s) then chooseAndBegin s else s

/-- Every event due in this millisecond and not yet taken, in a fixed order (log 2). -/
def takeDue (s : State) : State :=
  let s1 := deferredRestart s
  let s2 := trackerLimit .ub (trackerLimit .ua s1)
  let s3 := receiverLimit s2
  let s4 := sourceLoss .ub (sourceLoss .ua s3)
  let s5 := loadLimit (holdLimit s4)
  let s6 := queryLimit .sense (queryLimit .probe s5)
  let s7 := repeatLimit (probesReached s6)
  noticeOffer s7

/-- The part time advances by one millisecond (00_scope.md 0.6); a notice may be placed again (R192). -/
def advance (s : State) : State := (s.withClock (s.clock + 1)).withNoticePlaced false

/-- The step of an empty queue. -/
def tick (s : State) : State := advance (takeDue s)

end Sys2Proof.Machine
end

