-- ==== Sys2Proof/Machine/Dispatch.lean ====
section
/-! DEFINITION. The meaning of each command, one arm per row of spec/opcode_table.json. -/

namespace Sys2Proof.Machine

def exec (i : Instr) (s : State) : Host.Outcome State Fault Refusal :=
  match i with
  | .crcFailedCell p => Sys2Proof.Machine.execCrcFailedCell p s
  | .lossOfSignal p cellInProgress => Sys2Proof.Machine.execLossOfSignal p cellInProgress s
  | .foreignCell p c => Sys2Proof.Machine.execForeignCell p c s
  | .frameOpen p n => Sys2Proof.Machine.execFrameOpen p n s
  | .pixelRun p line column pixels => Sys2Proof.Machine.execPixelRun p line column pixels s
  | .frameClose p n => Sys2Proof.Machine.execFrameClose p n s
  | .trackerLimitExpiry p => Sys2Proof.Machine.execTrackerLimitExpiry p s
  | .sourceLossTimeExpiry p => Sys2Proof.Machine.execSourceLossTimeExpiry p s
  | .frameOpenLimitExpiry => Sys2Proof.Machine.execFrameOpenLimitExpiry s
  | .ident t slot serial width height depth hours => Sys2Proof.Machine.execIdent t slot serial width height depth hours s
  | .senseReply t slot short temperature hours => Sys2Proof.Machine.execSenseReply t slot short temperature hours s
  | .tileAlert t payload => Sys2Proof.Machine.execTileAlert t payload s
  | .returnCellSent p => Sys2Proof.Machine.execReturnCellSent p s
  | .readSetting p t number => Sys2Proof.Machine.execReadSetting p t number s
  | .writeSetting p t number value => Sys2Proof.Machine.execWriteSetting p t number value s
  | .readPlan p t slot => Sys2Proof.Machine.execReadPlan p t slot s
  | .writePlan p t slot entry => Sys2Proof.Machine.execWritePlan p t slot entry s
  | .readSlot p t slot => Sys2Proof.Machine.execReadSlot p t slot s
  | .readBand p t slot band => Sys2Proof.Machine.execReadBand p t slot band s
  | .writeBand p t slot band entry => Sys2Proof.Machine.execWriteBand p t slot band entry s
  | .libOpen p t identity => Sys2Proof.Machine.execLibOpen p t identity s
  | .libPut p t pointer words => Sys2Proof.Machine.execLibPut p t pointer words s
  | .libClose p t => Sys2Proof.Machine.execLibClose p t s
  | .libAbort p t => Sys2Proof.Machine.execLibAbort p t s
  | .libDelete p t identity => Sys2Proof.Machine.execLibDelete p t identity s
  | .libRead p t identity first count => Sys2Proof.Machine.execLibRead p t identity first count s
  | .libList p t first count => Sys2Proof.Machine.execLibList p t first count s
  | .setLevel p t level => Sys2Proof.Machine.execSetLevel p t level s
  | .readLevel p t => Sys2Proof.Machine.execReadLevel p t s
  | .flagTest p t flag => Sys2Proof.Machine.execFlagTest p t flag s
  | .flagSet p t flag => Sys2Proof.Machine.execFlagSet p t flag s
  | .flagClear p t flag => Sys2Proof.Machine.execFlagClear p t flag s
  | .flagChange p t flag => Sys2Proof.Machine.execFlagChange p t flag s
  | .readCauses p t => Sys2Proof.Machine.execReadCauses p t s
  | .clearCauses p t causes => Sys2Proof.Machine.execClearCauses p t causes s
  | .writeCauseControl p t cause enable level => Sys2Proof.Machine.execWriteCauseControl p t cause enable level s
  | .probeSlots p t slots => Sys2Proof.Machine.execProbeSlots p t slots s
  | .senseSlot p t slot => Sys2Proof.Machine.execSenseSlot p t slot s
  | .readPorts p t => Sys2Proof.Machine.execReadPorts p t s
  | .restart p t => Sys2Proof.Machine.execRestart p t s
  | .unknownRequest p t code operands => Sys2Proof.Machine.execUnknownRequest p t code operands s
  | .restartAtScanEnd => Sys2Proof.Machine.execRestartAtScanEnd s
  | .scanEnd => Sys2Proof.Machine.execScanEnd s
  | .tilePixelsSent => Sys2Proof.Machine.execTilePixelsSent s
  | .repeatTimerExpiry => Sys2Proof.Machine.execRepeatTimerExpiry s
  | .blanknAssertion => Sys2Proof.Machine.execBlanknAssertion s
  | .blanknDeassertion => Sys2Proof.Machine.execBlanknDeassertion s
  | .holdLimitExpiry => Sys2Proof.Machine.execHoldLimitExpiry s
  | .probeSent => Sys2Proof.Machine.execProbeSent s
  | .senseRequestSent => Sys2Proof.Machine.execSenseRequestSent s
  | .probeTimeout => Sys2Proof.Machine.execProbeTimeout s
  | .senseTimeout => Sys2Proof.Machine.execSenseTimeout s
  | .probeDue slot => Sys2Proof.Machine.execProbeDue slot s
  | .loadLimitExpiry => Sys2Proof.Machine.execLoadLimitExpiry s
  | .noticeOffer => Sys2Proof.Machine.execNoticeOffer s
  | .powerReset => Sys2Proof.Machine.execPowerReset s
  | .symbolsReturn p => Sys2Proof.Machine.execSymbolsReturn p s

end Sys2Proof.Machine
end

