-- ==== Sys2Proof/Machine/Step.lean ====
section
/-! DEFINITION. One step of the part: the command at the front of the queue, or the passing of a millisecond. -/

namespace Sys2Proof.Machine

/-- One step: the command at the front is taken from the queue and executed; with an empty queue the part takes the
expiries that are due and the part time advances (log 2). -/
def step (s : State) : Host.Outcome State Fault Refusal :=
  match s.pending with
  | c :: rest => exec c (s.withPending rest)
  | [] => .next (tick s)

/-- The state with the command a table word spells put at the front of the queue; no word spells one (log 23). -/
def State.withFetchWord (s : State) (nbits w : Nat) : State :=
  match decodeTableWord nbits w with
  | some c => s.withPending (c :: s.pending)
  | none => s

end Sys2Proof.Machine
end

