-- ==== Sys2Proof/Safety.lean ====
section
/-! DEFINITION. What a safe run keeps: the laws the spec states for the part's state, one predicate each, and the words
in which the statements about commands are made. -/

namespace Sys2Proof.Machine

/-! ## Words for statements about cells and requests -/

/-- A port that takes cells has counted one more CRC-good cell (R4): its good run rises to at most 8, its failed run is
0, and nothing else changes. -/
def State.heard (s : State) (p : Up) : State :=
  s.withUp p { s.up p with goodRun := min 8 ((s.up p).goodRun + 1), failedRun := 0 }

/-- Port D, ALIGNED, has counted one more CRC-good cell (R4, R8). -/
def State.heardD (s : State) : State :=
  s.withD { s.d with goodRun := min 8 (s.d.goodRun + 1), failedRun := 0 }

/-- An upstream port whose cells are taken: its signal is not lost (R1) and it is ALIGNED or UP (R3). -/
def State.listens (s : State) (p : Up) : Prop := (s.up p).lost = false ∧ (s.up p).state ≠ .down

/-- Port D takes cells: its signal is not lost (R1) and it is ALIGNED (R3). -/
def State.listensD (s : State) : Prop := s.d.lost = false ∧ s.d.aligned = true

/-- A REQUEST arriving on the port is executed: the port takes cells, its return queue has a free place (R15) and no
restart waits for a scan end (R186). -/
def State.serves (s : State) (p : Up) : Prop :=
  s.listens p ∧ (s.up p).queue.length < 32 ∧ s.restart = none

/-- An edit from the port passes the ownership step: flag 0 is clear, or the port holds it (R174). -/
def State.mayEdit (s : State) (p : Up) : Prop := s.flags.get 0 = true → s.holder = some p

/-- The REPLY to a request has entered the newest end of its port's return queue (R15, R9, Table 1-2). -/
def State.replied (s : State) (p : Up) (tag : W16) (code : Byte) (o : ReqOutcome) (data : List Byte) : State :=
  s.enqueue p ⟨kindReply, tag, code :: o.code :: data⟩

/-- The port, tag and code of an edit (R170), by its form: a LIB-PUT carries 1 to 64 words (R172). -/
def editHead : Instr → Option (Up × W16 × Byte)
  | .writeSetting p tag _ _ => some (p, tag, 0x02)
  | .writePlan p tag _ _ => some (p, tag, 0x04)
  | .writeBand p tag _ _ _ => some (p, tag, 0x07)
  | .libOpen p tag _ => some (p, tag, 0x08)
  | .libPut p tag _ words => if 1 ≤ words.length ∧ words.length ≤ 64 then some (p, tag, 0x09) else none
  | .libClose p tag => some (p, tag, 0x0A)
  | .libAbort p tag => some (p, tag, 0x0B)
  | .libDelete p tag _ => some (p, tag, 0x0C)
  | .setLevel p tag _ => some (p, tag, 0x0F)
  | .clearCauses p tag _ => some (p, tag, 0x16)
  | .writeCauseControl p tag _ _ _ => some (p, tag, 0x17)
  | .probeSlots p tag _ => some (p, tag, 0x18)
  | .senseSlot p tag _ => some (p, tag, 0x19)
  | .restart p tag => some (p, tag, 0x1B)
  | _ => none

/-- The upstream port a command brings a CRC-good cell to. -/
def upstreamCell : Instr → Option Up
  | .foreignCell (.up p) _ => some p
  | .frameOpen p _ => some p
  | .pixelRun p _ _ _ => some p
  | .frameClose p _ => some p
  | i => Instr.requestPort i

/-- A command brings a CRC-good cell to port D. -/
def chainCell : Instr → Bool
  | .foreignCell .d _ => true
  | .ident .. => true
  | .senseReply .. => true
  | .tileAlert .. => true
  | _ => false

/-- A tally after one more event (R10). -/
def tallied (n : Nat) : Nat := min 65535 (n + 1)

/-- The state a restart leaves (R44, R58, R79, R100, R158, R200), the requesting port's queue and what may wait apart:
what it keeps (R19, R137, R168, R183, R188) and what it sets; the first
probe is handed over at once if port D is ALIGNED (R187). -/
def restarted (s t : State) : Prop :=
  t.receiver = ⟨.idle, false⟩ ∧ (∀ k, t.shown.get k = [] ∧ t.incoming.get k = []) ∧ t.engine.scan = none ∧
  t.engine.display = .live ∧ t.engine.repeatStart = some s.clock ∧ t.engine.holdStart = s.clock ∧
  t.engine.number = s.engine.number ∧ t.engine.blank = s.engine.blank ∧
  t.engine.deferredBlanks = s.engine.deferredBlanks ∧ (∀ k, t.counts.get k = ⟨0, 0⟩) ∧
  (∀ k, (s.tile k).presence = .empty → t.tile k = s.tile k) ∧
  (∀ k, (s.tile k).presence ≠ .empty → t.tile k = ⟨.absent, none, some (.instant s.clock)⟩) ∧
  t.d = { s.d with tx := t.d.tx } ∧ (s.d.tx.isSome = true → t.d.tx = s.d.tx) ∧
  ((s.d.aligned = false ∨ ∀ k, (s.tile k).presence = .empty) → t.query.outstanding = none ∧ t.d.tx = s.d.tx ∧
    t.query.tagCounter = s.query.tagCounter) ∧
  (s.d.aligned = true → ∀ k, (s.tile k).presence ≠ .empty → (∀ j, j < k → (s.tile j).presence = .empty) →
    t.query.tagCounter = s.query.tagCounter + 1 ∧ t.query.outstanding = some ⟨.probe, k, s.query.tagCounter + 1,
      if s.d.tx = none then .sending else .waiting⟩) ∧
  t.query.senseList = [] ∧ t.query.pointer = 0 ∧ t.query.roundDue = false ∧ t.query.divider = 0 ∧ t.load = none ∧
  (∀ k, t.drift.get k = ⟨none, 0, ⟨65536, 65536, 65536⟩, ⟨65536, 65536, 65536⟩⟩) ∧
  (∀ c, c ≠ Cause.sourceSwitch.number →
    t.causes.get c = { s.causes.get c with pending := false, announced := false, firstSlot := none, count := 0 }) ∧
  ((t.causes.get Cause.sourceSwitch.number).pending = s.selector.toSwitch.isSome) ∧
  t.selector = (match s.selector.toSwitch with
    | some q => ⟨some q, none⟩
    | none => s.selector) ∧
  t.plans = s.plans ∧ t.records = s.records ∧ t.bands = s.bands ∧ t.level = s.level ∧ t.settings = s.settings ∧
  t.flags = s.flags ∧ t.holder = s.holder ∧ t.clock = s.clock ∧ t.pending = s.pending ∧
  t.noticePlaced = s.noticePlaced

/-! ## Words for what stays -/

/-- The parts of State; the two upstream ports are parts of their own. -/
inductive Part where
  | up (p : Up)
  | pending
  | clock
  | d
  | selector
  | plans
  | shown
  | incoming
  | receiver
  | engine
  | counts
  | tiles
  | query
  | records
  | load
  | bands
  | drift
  | level
  | settings
  | flags
  | holder
  | restart
  | waiting
  | causes
  | noticePlaced
deriving DecidableEq

/-- A part of `t` is that of `s`. -/
def Part.same (s t : State) : Part → Prop
  | .up p => t.up p = s.up p
  | .pending => t.pending = s.pending
  | .clock => t.clock = s.clock
  | .d => t.d = s.d
  | .selector => t.selector = s.selector
  | .plans => t.plans = s.plans
  | .shown => t.shown = s.shown
  | .incoming => t.incoming = s.incoming
  | .receiver => t.receiver = s.receiver
  | .engine => t.engine = s.engine
  | .counts => t.counts = s.counts
  | .tiles => t.tiles = s.tiles
  | .query => t.query = s.query
  | .records => t.records = s.records
  | .load => t.load = s.load
  | .bands => t.bands = s.bands
  | .drift => t.drift = s.drift
  | .level => t.level = s.level
  | .settings => t.settings = s.settings
  | .flags => t.flags = s.flags
  | .holder => t.holder = s.holder
  | .restart => t.restart = s.restart
  | .waiting => t.waiting = s.waiting
  | .causes => t.causes = s.causes
  | .noticePlaced => t.noticePlaced = s.noticePlaced

/-- Every part of `t` but those listed is that of `s`. -/
def Touches (ps : List Part) (s t : State) : Prop := ∀ f : Part, f ∉ ps → f.same s t

/-- No cause but those listed has changed its entry. -/
def raisesOnly (cs : List Cause) (s t : State) : Prop :=
  ∀ c : Fin 16, (∀ x ∈ cs, x.number ≠ c) → t.causes.get c = s.causes.get c

/-- Of port D and of the scan engine nothing has changed, but that a free transmitter may have begun a cell: a query's, the
scan's next formed one, or its TILE-SHOW (R9, R50, R64). -/
def begins (s t : State) : Prop :=
  t.d = { s.d with tx := t.d.tx } ∧ (s.d.tx.isSome = true → t.d.tx = s.d.tx) ∧
  (t.engine = s.engine ∨ ∃ sc c rest, s.engine.scan = some sc ∧ sc.cells = c :: rest ∧ t.d.tx = some c ∧
    t.engine = { s.engine with scan := some { sc with cells := rest } })

/-! ## Words for what a command brings about -/

/-- R7, R93, R178, R186, R11: an upstream port that was ALIGNED or UP has entered DOWN: of its queue the oldest cell is kept
(log 16), its tracker is reset, its edit flag, load and active role are released, and the requests waiting at it and the
reply to its RESTART are dropped (log 12). -/
def fallsDown (p : Up) (s t : State) : Prop :=
  (t.up p).state = .down ∧ (t.up p).goodRun = 0 ∧ (t.up p).failedRun = 0 ∧ (t.up p).queue = (s.up p).queue.take 1 ∧
  (t.up p).openFrame = none ∧ (t.up p).completeRun = 0 ∧ (t.up p).lastOpen = none ∧
  (s.holder = some p → t.flags = s.flags.set 0 false ∧ t.holder = none ∧
    (t.causes.get Cause.editReleased.number).pending = true) ∧
  (s.holder ≠ some p → t.flags = s.flags ∧ t.holder = s.holder) ∧
  (∀ l, s.load = some l → l.owner = p → t.load = none ∧ (t.causes.get Cause.loadAbandoned.number).pending = true) ∧
  (∀ l, s.load = some l → l.owner ≠ p → t.load = s.load) ∧
  t.waiting = s.waiting.filter (fun i => decide (Instr.requestPort i ≠ some p)) ∧
  t.restart = s.restart.map (fun w => if w.port = p then { w with replyLost := true } else w) ∧
  (s.selector.active = some p →
    t.selector = ⟨if (s.up (otherPort p)).state = .up then some (otherPort p) else none, none⟩ ∧
    t.receiver.phase = .idle ∧ (t.causes.get Cause.sourceSwitch.number).pending = true) ∧
  t.receiver.ready = s.receiver.ready

/-- R63, R145, R146, R148: the query unit `q` that a choice on `s` leaves, its cell in `phase`; `senses` says whether R64
allows a sense request. While D is DOWN or a query is outstanding nothing is chosen; then, in order: the lowest slot whose
probe is due, the head of the priority sense list, and, if one is due, the first identified slot from the round-robin
pointer on. -/
def choosesNext (senses : Bool) (phase : QueryPhase) (s : State) (q : QueryUnit) : Prop :=
  let query (kind : QueryKind) (k : SlotId) : Option Query := some ⟨kind, k, s.query.tagCounter + 1, phase⟩
  let tag : W16 := s.query.tagCounter + 1
  let identified (k : SlotId) : Prop := (s.tile k).presence.identified = true
  (s.d.aligned = false ∨ s.query.outstanding.isSome = true → q = s.query) ∧
  (s.d.aligned = true → s.query.outstanding = none →
    (∀ k, probeIsDue s k = true → (∀ j, j < k → probeIsDue s j = false) →
      q = { s.query with outstanding := query .probe k, tagCounter := tag }) ∧
    ((∀ k, probeIsDue s k = false) →
      (senses = false → q = s.query) ∧
      (senses = true →
        (∀ k rest, s.query.senseList = k :: rest →
          q = { s.query with outstanding := query .sense k, tagCounter := tag, senseList := rest }) ∧
        (s.query.senseList = [] → s.query.roundDue = false → q = s.query) ∧
        (s.query.senseList = [] → s.query.roundDue = true →
          (∀ i : SlotId, identified (s.query.pointer + i) → (∀ j, j < i → ¬ identified (s.query.pointer + j)) →
            q = { s.query with
              outstanding := query .sense (s.query.pointer + i)
              tagCounter := tag
              pointer := s.query.pointer + i + 1
              roundDue := false }) ∧
          ((∀ k, ¬ identified k) → q = { s.query with roundDue := false })))))

/-- The phase of a query chosen on `s`: its cell begins at once when nothing is being sent (R64, log 16), but not before a
restart that is due (log 10). -/
def nextPhase (s : State) : QueryPhase :=
  match s.d.tx, s.restart with
  | none, none => .sending
  | none, some w => if w.scanEnded then .waiting else .sending
  | some _, _ => .waiting

/-- R63, R64: a command taken on `s`, which leaves the query unit at `u` and then occasions a choice, answers `t`. A query
that waited for the transmitter before the command is left out. While a scan is in flight no sense is chosen, also before
its first cell (log 29: the model's choice). -/
def choosesAfter (s : State) (u : QueryUnit) (t : State) : Prop :=
  (∀ q, u.outstanding = some q → q.phase ≠ .waiting) →
    choosesNext s.engine.scan.isNone (nextPhase s) (t.withQuery u) t.query

/-- R22, check 2 of R25: the source kind is 0 to 4 and each field that kind uses lies in its range, flags 0 or 1. -/
def entryInRange (e : RawPlan) : Prop :=
  let size (x : W16) : Prop := 16 ≤ x.toNat ∧ x.toNat ≤ 256 ∧ x.toNat % 8 = 0
  let colour : Prop := e.colour.r.toNat ≤ 4095 ∧ e.colour.g.toNat ≤ 4095 ∧ e.colour.b.toNat ≤ 4095
  e.kind = 0 ∨
  e.dark.toNat ≤ 1 ∧
    (e.kind = 1 ∧ e.line.toNat ≤ 4095 ∧ e.column.toNat ≤ 4095 ∧ size e.width ∧ size e.height ∧ e.orientation.toNat ≤ 3 ∧
        e.mirror.toNat ≤ 1 ∨
      e.kind = 2 ∧ e.target.toNat ≤ 15 ∨
      e.kind = 3 ∧ colour ∨
      e.kind = 4 ∧ colour ∧ 8 ≤ e.pitch.toNat ∧ e.pitch.toNat ≤ 64)

/-- R22, R28: a plan entry as it is stored: the fields its source kind does not use are zero. -/
def entryAsStored (e : RawPlan) : RawPlan :=
  let black : Rgb W16 := ⟨0, 0, 0⟩
  match e.kind.toNat with
  | 1 => { e with target := 0, pitch := 0, colour := black }
  | 2 => ⟨2, e.dark, 0, 0, 0, 0, 0, 0, e.target, 0, black⟩
  | 3 => ⟨3, e.dark, 0, 0, 0, 0, 0, 0, 0, 0, e.colour⟩
  | 4 => ⟨4, e.dark, 0, 0, 0, 0, 0, 0, 0, e.pitch, e.colour⟩
  | _ => ⟨0, 0, 0, 0, 0, 0, 0, 0, 0, 0, black⟩

/-- R88: the word at offset `i` of a complete load for identity `id` passes its check. -/
def recordWordPasses (id : W64) (words : Record) (i : Nat) : Prop :=
  let w (j : Nat) : W16 := words.getD j 0
  let n : Nat := (w i).toNat
  let v : Int := (w i).toInt
  (i ≤ 3 → n = id.toNat / 65536 ^ (3 - i) % 65536) ∧
  (i = 4 ∨ i = 5 → 16 ≤ n ∧ n ≤ 256 ∧ n % 8 = 0) ∧
  (6 ≤ i → i ≤ 8 → n ≤ 255) ∧
  (9 ≤ i → i ≤ 17 → -8192 ≤ v ∧ v ≤ 8191) ∧
  (18 ≤ i → i ≤ 20 → n ≤ 8191) ∧
  (i = 21 → -160 ≤ v ∧ v ≤ 500) ∧
  (22 ≤ i → i ≤ 24 → -12000 ≤ v ∧ v ≤ 12000) ∧
  (i = 25 → n ≤ 255) ∧
  (27 ≤ i → i ≤ 29 → n ≤ 2000) ∧
  ∀ k, (i = 31 + 3 * k → n < (w 5).toNat) ∧
    (i = 32 + 3 * k → n < (w 4).toNat ∧ ∀ j, j < k → ¬ (w (31 + 3 * j) = w (31 + 3 * k) ∧ w (32 + 3 * j) = w (32 + 3 * k))) ∧
    (i = 33 + 3 * k → n = 1 ∨ n = 2)

/-- R24, R60, R70, R30: the identified state of a tile under a plan and a library. -/
def testedAs (plan : Plan) (records : List Record) (f : TileFacts) : Presence :=
  let size (n : Nat) : Bool := decide (16 ≤ n ∧ n ≤ 256 ∧ n % 8 = 0)
  let fits : Bool :=
    match plan with
    | .canvas c => decide (c.implied = (f.width.toNat, f.height.toNat))
    | _ => true
  let known : Bool :=
    match findRecord records f.serial with
    | some r => decide (recWidth r = f.width.toNat ∧ recHeight r = f.height.toNat)
    | none => false
  if size f.width.toNat && size f.height.toNat && (f.depth == 12 || f.depth == 14 || f.depth == 16) && fits then
    (if known then .matched else .unknown)
  else .misfit

/-- R139, R140: the targets of a slot have been computed afresh from its reading, hours and calibration as they stand in
`t`, with DRIFT-RANGE pending if a channel lay outside the range; the rest of its drift record is that of `d`. -/
def retargeted (k : SlotId) (d : Drift) (t : State) : Prop :=
  t.drift.get k = { d with target := (slotRawTargets t k).map clampTarget } ∧
  (∀ v ∈ (slotRawTargets t k).toList, v < 49152 ∨ 98304 < v → (t.causes.get Cause.driftRange.number).pending = true)

/-- R159: the uniformity gains of a slot: words 18 to 20 of the record a MATCHED slot is bound to, else setting 11. -/
def uniformityOf (s : State) (k : SlotId) : Rgb Nat :=
  match (s.tile k).presence, (s.tile k).facts.bind fun f => findRecord s.records f.serial with
  | .matched, some r => ⟨(r.getD 18 0).toNat, (r.getD 19 0).toNat, (r.getD 20 0).toNat⟩
  | _, _ => ⟨(s.setting 11).toNat, (s.setting 11).toNat, (s.setting 11).toNat⟩

/-- R159, R160: `h` is the run headroom and `limiting` the limiting slot of the run as `s` has it. -/
def headroomIs (s : State) (h : Nat) (limiting : Option SlotId) : Prop :=
  let counted (k : SlotId) : Prop :=
    ((s.tile k).presence = .matched ∨ (s.tile k).presence = .unknown) ∧ (s.plans.get k).dark = false
  let bounds (k : SlotId) (v : Nat) : Prop :=
    counted k ∧ ∃ x ∈ ((uniformityOf s k).zip (fun u a => u * a) (s.drift.get k).applied).toList, x ≠ 0 ∧ v = 2 ^ 44 / x
  h ≤ 65536 ∧ (∀ k v, bounds k v → h ≤ v) ∧
  (limiting = none → h = 65536 ∧ ∀ k v, bounds k v → 65536 < v) ∧
  ∀ k, limiting = some k → bounds k h ∧ ∀ j, j < k → ¬ bounds j h

/-- R48: the scan binding `b` is the copy of what `s` holds, item by item; the combined gains are in
`CombinedGainIsExactAndGuarded`. -/
def boundFrom (s : State) (b : Binding) : Prop :=
  b.threshold = (s.setting 9).toNat ∧ b.limitThreshold = (s.setting 10).toNat ∧ b.display = s.engine.display ∧
  b.blank = s.engine.blank ∧
  ∀ k, let x := b.slots.get k
    x.presence = (s.tile k).presence ∧ x.dark = (s.plans.get k).dark ∧
    x.source = (match s.plans.get k with
      | .none => .none
      | .canvas _ => .canvas
      | .mirror _ j => .mirror j
      | .flat _ c => .flat c
      | .grid _ c n => .grid c n) ∧
    x.size = (s.tile k).facts.map (fun f => ⟨f.width.toNat, f.height.toNat, f.depth.toNat⟩) ∧
    (∀ dark j, s.plans.get k = .mirror dark j → (x.mirrorUsable = true ↔
      ∃ c f, s.plans.get j = .canvas c ∧ (s.tile k).facts = some f ∧ c.implied = (f.width.toNat, f.height.toNat))) ∧
    (x.sent.isSome = true ↔ (s.tile k).presence = .matched ∨ (s.tile k).presence = .unknown) ∧
    ∀ y, x.sent = some y → y.bands = s.bands.get k ∧
      ((s.tile k).presence = .unknown → y.calibration =
        ⟨⟨0, 0, 0⟩, ⟨⟨4096, 0, 0⟩, ⟨0, 4096, 0⟩, ⟨0, 0, 4096⟩⟩, Rgb.all (s.setting 11).toNat, []⟩) ∧
      (∀ f r, (s.tile k).presence = .matched → (s.tile k).facts = some f → findRecord s.records f.serial = some r →
        let w (i : Nat) : Nat := (r.getD i 0).toNat
        let v (i : Nat) : Int := (r.getD i 0).toInt
        y.calibration = ⟨⟨w 6, w 7, w 8⟩, ⟨⟨v 9, v 10, v 11⟩, ⟨v 12, v 13, v 14⟩, ⟨v 15, v 16, v 17⟩⟩, ⟨w 18, w 19, w 20⟩,
          (List.range (w 30)).map fun i =>
            ⟨w (31 + 3 * i), w (32 + 3 * i), if w (33 + 3 * i) = 1 then .dark else .neighbour⟩⟩)

/-- R50, R51, R52, R103, R115: the cells of native line `y` of sent slot `k`, formed by the binding `b` from the images as
`s` has them: at most 64 pixels each, left to right; and the line's top clamps. -/
def formedLine (s : State) (b : Binding) (k : SlotId) (c : SentCopy) (z : BoundSize) (y : Nat) : List Cell × Nat :=
  let x := b.slots.get k
  let black : Bool := x.dark || decide (b.display = .blanked) || b.blank
  let input (col : Nat) : Rgb Nat := match x.source with
    | .none => ⟨0, 0, 0⟩
    | .canvas => shownPixel s k col y
    | .mirror j => if x.mirrorUsable then shownPixel s j col y else ⟨0, 0, 0⟩
    | .flat colour => colour
    | .grid colour pitch => if col % pitch = 0 ∨ y % pitch = 0 then colour else ⟨0, 0, 0⟩
  let scaled : List (Rgb Nat) := (List.range z.width).map fun col =>
    scaledPixel c.calibration c.gain b.threshold z.depth (bandFactor (bandLines c.bands y) z.width col) (input col)
  let values : List (Rgb Nat) :=
    if black then List.replicate z.width ⟨0, 0, 0⟩
    else substitute c.calibration.defects y (scaled.map (saturate z.depth))
  let clamps : Nat :=
    if black then 0 else (scaled.map fun v => (v.toList.filter fun n => decide (2 ^ z.depth - 1 < n)).length).sum
  ((List.range ((z.width + 63) / 64)).map fun i =>
    ⟨0x40, 0, [BitVec.ofNat 8 k.val, BitVec.ofNat 8 y, BitVec.ofNat 8 (64 * i),
      BitVec.ofNat 8 (min 64 (z.width - 64 * i))] ++
      ((values.drop (64 * i)).take 64).flatMap fun v => beBytes 2 v.r ++ beBytes 2 v.g ++ beBytes 2 v.b⟩,
    clamps)

/-- R50, R115: the scan `sc`, just started, with `t` the state the command answers. Its running counts began at 0 and it
has formed line 0 of its first sent slot and no other line; without a sent slot it has its TILE-SHOW alone. When the
transmitter was `free` at the scan start and no query and no restart goes first, its first cell has begun (log 16). -/
def scanJustStarted (free : Prop) (t : State) (sc : Scan) : Prop :=
  let sent (k : SlotId) : Option SentCopy := (sc.binding.slots.get k).sent
  let zero : Table Nat 16 := Table.replicate 16 0
  let goesFirst : Prop := free ∧ t.restart = none ∧ ∀ q, t.query.outstanding = some q → q.phase ≠ .sending
  ((∀ k, sent k = none) → sc.running = zero ∧ sc.slot = 16 ∧ sc.cells = [] ∧
    (goesFirst → t.d.tx = some ⟨0x41, 0, be16 t.engine.number⟩)) ∧
  ∀ k c z, sent k = some c → (∀ j, j < k → sent j = none) → (sc.binding.slots.get k).size = some z → 0 < z.width →
    let line := formedLine t sc.binding k c z 0
    let begun : Prop := ∃ first, line.1 = first :: sc.cells ∧ t.d.tx = some first
    sc.running = zero.set k line.2 ∧ (1 < z.height → sc.slot = k.val ∧ sc.line = 1) ∧
    (sc.cells = line.1 ∨ begun) ∧ (goesFirst → begun)

/-! ## Laws of the state -/

/-- R186: a request waits only at a port that is not DOWN (for a port that did not send the RESTART, log 12). -/
def waitingLaw (s : State) : Prop :=
  ∀ i ∈ s.waiting, ∃ p, Instr.requestPort i = some p ∧ (s.up p).state ≠ .down

/-- R22, R27: a CANVAS footprint is 16 to 256 lines by 16 to 256 columns, no two share a canvas pixel, and their areas sum to
at most 262,144. -/
def planLaw (s : State) : Prop :=
  plansLawful s.plans = true ∧
  ∀ k c, s.plans.get k = .canvas c → 16 ≤ c.width ∧ c.width ≤ 256 ∧ 16 ≤ c.height ∧ c.height ≤ 256

/-- R80, R81: at most 48 records, no identity twice, at most 1024 defect entries, each record of its proper length. -/
def libraryLaw (s : State) : Prop :=
  s.records.length ≤ 48 ∧ (s.records.map recIdentity).Nodup ∧ (s.records.map recDefects).sum ≤ 1024 ∧
  ∀ r ∈ s.records, r.length = 31 + 3 * recDefects r

/-- R174: flag 0 is set exactly while it has a holder, and its holder is not DOWN. -/
def editFlagLaw (s : State) : Prop :=
  s.flags.get 0 = s.holder.isSome ∧ ∀ p, s.holder = some p → (s.up p).state ≠ .down

/-- R83: an open load belongs to a port that is not DOWN, has a nonzero identity and holds at most 223 words. -/
def loadLaw (s : State) : Prop :=
  ∀ l, s.load = some l → (s.up l.owner).state ≠ .down ∧ l.identity ≠ 0 ∧ l.words.length ≤ 223

/-- R189, R190: a count is at most 255 and is 0 exactly while its cause is not pending; only a pending cause is announced
or has a first slot; a level is at most 3. -/
def causeLaw (s : State) : Prop :=
  ∀ c, (s.causes.get c).count ≤ 255 ∧ ((s.causes.get c).count = 0 ↔ (s.causes.get c).pending = false) ∧
    ((s.causes.get c).announced = true → (s.causes.get c).pending = true) ∧
    ((s.causes.get c).pending = false → (s.causes.get c).firstSlot = none) ∧ (s.causes.get c).level ≤ 3

/-- The three factors lie within 49,152 to 98,304 (R138). -/
def factorsInRange (x : Rgb Nat) : Prop := ∀ v ∈ x.toList, 49152 ≤ v ∧ v ≤ 98304

/-- R138, R154: target and applied factors in their range, miss count at most 3. -/
def driftLaw (s : State) : Prop :=
  ∀ k, factorsInRange (s.drift.get k).target ∧ factorsInRange (s.drift.get k).applied ∧ (s.drift.get k).miss ≤ 3

/-- R60, R62, R67, R68, R148: a slot is EMPTY exactly while its plan is NONE, has tile facts exactly while identified,
and a probe-due time exactly while ABSENT; an outstanding probe is for an ABSENT slot and an outstanding sense for an
identified one; the sense list names identified slots, none twice. -/
def slotLaw (s : State) : Prop :=
  (∀ k, ((s.tile k).presence = .empty ↔ s.plans.get k = .none) ∧
    (s.tile k).facts.isSome = (s.tile k).presence.identified ∧
    ((s.tile k).due.isSome = true ↔ (s.tile k).presence = .absent)) ∧
  (∀ q, s.query.outstanding = some q →
    match q.kind with
    | .probe => (s.tile q.slot).presence = .absent
    | .sense => (s.tile q.slot).presence.identified = true) ∧
  (∀ k ∈ s.query.senseList, (s.tile k).presence.identified = true) ∧ s.query.senseList.Nodup

/-- R62: an outstanding query carries the tag taken last. -/
def tagLaw (s : State) : Prop := ∀ q, s.query.outstanding = some q → q.tag = s.query.tagCounter

/-- R61: a MATCHED slot's tile has its record in the library, of its identity and size. -/
def matchLaw (s : State) : Prop :=
  ∀ k, (s.tile k).presence = .matched → ∃ f, (s.tile k).facts = some f ∧ libraryMatches s.records f = true

/-- R35: every image is in its canonical form (the form of the data is log 18), and a slot whose plan is not CANVAS has no
image. -/
def imageLaw (s : State) : Prop :=
  ∀ k, Image.wf (s.shown.get k) = true ∧ Image.wf (s.incoming.get k) = true ∧
    ((s.plans.get k).isCanvas = false → s.shown.get k = [] ∧ s.incoming.get k = [])

/-- R11, R12: the active source is the choice, unless a switch to the choice is pending, which is only while the frame
receiver is RECEIVING; the active source is UP; the receiver is RECEIVING only with an active source, and then not
READY. -/
def sourceLaw (s : State) : Prop :=
  (∀ p, s.selector.active = some p → (s.up p).state = .up) ∧
  (s.selector.toSwitch = none → s.selector.active = sourceChoice s) ∧
  (∀ p, s.selector.toSwitch = some p → sourceChoice s = some p ∧ s.selector.active = some (otherPort p) ∧
    s.receiving = true) ∧
  (s.receiving = true → s.selector.active.isSome = true ∧ s.receiver.ready = false)

/-- R6, R7: an UP port has taken a FRAME-OPEN; a DOWN port has no open frame, no FRAME-OPEN time and no complete-frame
run, and its queue holds at most the cell in transmission. -/
def portLaw (s : State) : Prop :=
  ∀ p, ((s.up p).state = .up → (s.up p).lastOpen.isSome = true) ∧
    ((s.up p).state = .down → (s.up p).openFrame = none ∧ (s.up p).lastOpen = none ∧ (s.up p).completeRun = 0 ∧
      (s.up p).queue.length ≤ 1)

/-- R4, R10, 1.3, R14, R186: the counts of an upstream port in their ranges, a queue of at most 32 cells with room for the
reply of a RESTART that waits, at most four requests waiting, and none without a waiting RESTART. -/
def countLaw (s : State) : Prop :=
  (∀ p, (s.up p).goodRun ≤ 8 ∧ (s.up p).failedRun ≤ 16 ∧ (s.up p).completeRun ≤ 3 ∧ (s.up p).crcFailed ≤ 65535 ∧
    (s.up p).foreign ≤ 65535 ∧ (s.up p).unanswered ≤ 65535 ∧ (s.up p).complete ≤ 65535 ∧
    (s.up p).queue.length ≤ 32 ∧ waitingAt s p ≤ 4) ∧
  (∀ w, s.restart = some w → w.replyLost = false → (s.up w.port).queue.length < 32) ∧
  (s.restart = none → s.waiting = [])

/-- R182: every setting lies within its range. -/
def settingLaw (s : State) : Prop :=
  ∀ n, (settingRow n).lo ≤ s.setting n ∧ s.setting n ≤ (settingRow n).hi

/-- 3.1, R46: the repeat timer runs exactly while no scan is in flight, and a READY frame waits only for a scan's end. -/
def engineLaw (s : State) : Prop :=
  (s.engine.repeatStart.isSome = s.engine.scan.isNone) ∧ (s.receiver.ready = true → s.engine.scan.isSome = true)

end Sys2Proof.Machine
end

