-- ==== Sys2Proof/Certificates/Slice0/Obligations.lean ====
section
/-! DEFINITION. The statements about the model, for the provers. In each, `s` is the state before and `t` the state the
command answers; an equation for `t` says at once what changes and that nothing else does. -/

open Sys2Proof Sys2Proof.Machine

/-! ## The step -/

/-- A step takes the command at the front of the queue and executes it on the state with the queue's rest. -/
def Obligations.StepRunsFrontCommand : Prop :=
  ∀ (s : State) (c : Instr) (rest : List Instr), s.pending = c :: rest → step s = exec c (s.withPending rest)

/-- The part time moves at the step of an empty queue, by one, and at a power reset alone. The step of an empty queue is
the model's choice (log 2). -/
def Obligations.PartTimeAdvancesByIdleSteps : Prop :=
  (∀ (c : Instr) (s : State), c ≠ .powerReset → ∃ t, exec c s = .next t ∧ t.clock = s.clock) ∧
  ∀ s : State, s.pending = [] → ∃ t, step s = .next t ∧ t.clock = s.clock + 1 ∧ t.pending = []

/-- Power reset: every block at its power-reset values, from whatever state; the BLANKn line, an input, stays as it
stands and the commands not yet taken stay (log 6, log 21: the model's choices). -/
def Obligations.PowerResetSetsEveryBlock : Prop :=
  ∀ s : State, ∃ t, exec .powerReset s = .next t ∧
    (∀ p, (t.up p).state = .down ∧ (t.up p).goodRun = 0 ∧ (t.up p).failedRun = 0 ∧ (t.up p).completeRun = 0 ∧
      (t.up p).openFrame = none ∧ (t.up p).lastOpen = none ∧ (t.up p).crcFailed = 0 ∧ (t.up p).foreign = 0 ∧
      (t.up p).unanswered = 0 ∧ (t.up p).complete = 0 ∧ (t.up p).queue = []) ∧
    t.d.aligned = false ∧ t.d.goodRun = 0 ∧ t.d.failedRun = 0 ∧ t.d.crcFailed = 0 ∧ t.d.stray = 0 ∧ t.d.dropped = 0 ∧
    t.d.tx = none ∧ t.selector = ⟨none, none⟩ ∧ t.clock = 0 ∧
    (∀ k, t.plans.get k = .none ∧ t.shown.get k = [] ∧ t.incoming.get k = []) ∧ t.receiver = ⟨.idle, false⟩ ∧
    t.engine.scan = none ∧ t.engine.number = 0 ∧ t.engine.display = .live ∧ t.engine.holdStart = 0 ∧
    t.engine.repeatStart = some 0 ∧ t.engine.blank = s.engine.blank ∧ (∀ k, t.counts.get k = ⟨0, 0⟩) ∧
    (∀ k, t.tile k = ⟨.empty, none, none⟩) ∧ t.query = ⟨none, 0, [], 0, false, 0⟩ ∧
    t.records = [] ∧ t.load = none ∧ (∀ k i, (t.bands.get k).get i = ⟨false, 0, 0, 0, 0, 0, 0, 0, 0⟩) ∧
    (∀ k, t.drift.get k = ⟨none, 0, ⟨65536, 65536, 65536⟩, ⟨65536, 65536, 65536⟩⟩) ∧
    t.level = ⟨65536, 65536, 65536, none⟩ ∧
    t.settings.entries = [0, 100, 40, 2000, 20, 500, 10, 4, 64, 16, 64, 3584, 6000, 3000, 2500, 1, 0] ∧
    (∀ k, t.flags.get k = false) ∧ t.holder = none ∧ t.restart = none ∧ t.waiting = [] ∧
    t.causes.entries.map (fun e => (e.pending, e.announced, e.enable, e.firstSlot, e.count)) =
      List.replicate 16 (false, false, false, none, 0) ∧
    t.causes.entries.map CauseEntry.level = [1, 2, 3, 1, 1, 1, 1, 2, 2, 2, 1, 2, 1, 1, 1, 2] ∧
    t.faultAsserted = false ∧ t.pending = s.pending

/-! ## Cells and ports -/

/-- R2, R4, R8: a CRC-failed cell is tallied, counted toward the failed run, and raises LINK-ERR with no slot; nothing
else changes while the failed run stays below 16. The one that brings the failed run to 16 takes the port DOWN, with
both runs 0 and, if it was not DOWN, all that its entry to DOWN brings about (R7, R74, as for a loss of signal; that any
port's waiting requests go, log 12, and that its oldest queued cell is the one in transmission, log 16, are the model's
readings). -/
def Obligations.FailedCellIsTalliedAndRaised : Prop :=
  (∀ (p : Up) (s : State), (s.up p).lost = false → (s.up p).failedRun < 15 →
    exec (.crcFailedCell (.up p)) s = .next (raise .linkErr none (s.withUp p
      { s.up p with
        crcFailed := tallied (s.up p).crcFailed
        failedRun := (s.up p).failedRun + 1
        goodRun := 0 }))) ∧
  (∀ s : State, s.d.lost = false → s.d.failedRun < 15 →
    exec (.crcFailedCell .d) s = .next (raise .linkErr none (s.withD
      { s.d with crcFailed := tallied s.d.crcFailed, failedRun := s.d.failedRun + 1, goodRun := 0 }))) ∧
  (∀ (p : Up) (s : State), (s.up p).lost = false → (s.up p).failedRun = 15 →
    ∃ t, exec (.crcFailedCell (.up p)) s = .next t ∧ (t.up p).state = .down ∧ (t.up p).goodRun = 0 ∧
      (t.up p).failedRun = 0 ∧ (t.up p).crcFailed = tallied (s.up p).crcFailed ∧
      (t.up p).foreign = (s.up p).foreign ∧ (t.up p).unanswered = (s.up p).unanswered ∧
      (t.up p).complete = (s.up p).complete ∧ (t.causes.get Cause.linkErr.number).pending = true ∧
      Touches [.up p, .selector, .incoming, .receiver, .load, .flags, .holder, .restart, .waiting, .causes] s t ∧
      raisesOnly [.linkErr, .editReleased, .loadAbandoned, .sourceSwitch] s t ∧
      ((s.up p).state ≠ .down → fallsDown p s t) ∧
      ((s.up p).state = .down → t = raise .linkErr none (s.withUp p
        { s.up p with crcFailed := tallied (s.up p).crcFailed, failedRun := 0, goodRun := 0 }))) ∧
  (∀ s : State, s.d.lost = false → s.d.failedRun = 15 →
    ∃ t, exec (.crcFailedCell .d) s = .next t ∧
      t.d = { s.d with aligned := false, goodRun := 0, failedRun := 0, crcFailed := tallied s.d.crcFailed } ∧
      (t.causes.get Cause.linkErr.number).pending = true ∧ Touches [.d, .tiles, .query, .causes] s t ∧
      raisesOnly [.linkErr, .tileLost] s t ∧
      t.query = { s.query with outstanding := t.query.outstanding, senseList := t.query.senseList } ∧
      (s.d.aligned = true → t.query.outstanding = none ∧
        (∀ k, (s.tile k).presence.identified = true →
          t.tile k = ⟨.absent, none, some (.instant s.clock)⟩ ∧ k ∉ t.query.senseList ∧
          (t.causes.get Cause.tileLost.number).pending = true) ∧
        ∀ k, (s.tile k).presence.identified = false → t.tile k = s.tile k) ∧
      (s.d.aligned = false → t.tiles = s.tiles ∧ t.query = s.query))

/-- R1, R2, R4, R7, R11, R93, R178, R186: loss of signal on an upstream port. The port is DOWN with both runs 0. A port
that was ALIGNED or UP keeps of its queue only the cell in transmission, loses its open frame, its run and its FRAME-OPEN
time, its edit flag with EDIT-RELEASED, its load with LOAD-ABANDONED, the requests waiting at it, and, if it was the
active source, that role, with SOURCE-SWITCH, any open frame being abandoned and a READY frame kept. A cell cut off is a
CRC-failed cell: tallied, with LINK-ERR raised (R2). Whether one was is the command's operand (log 4: the model's choice).
That the waiting requests of any port are dropped, and that a lost RESTART reply stays lost, is log 12; that the oldest
queued cell is the one in transmission is log 16 (the model's readings; R186 speaks of the requesting port). -/
def Obligations.LossOfSignalTakesUpstreamPortDown : Prop :=
  ∀ (p : Up) (b : Bool) (s : State), ∃ t, exec (.lossOfSignal (.up p) b) s = .next t ∧
    (t.up p).lost = true ∧ (t.up p).state = .down ∧ (t.up p).goodRun = 0 ∧ (t.up p).failedRun = 0 ∧
    (t.up p).crcFailed = (if b = true ∧ (s.up p).lost = false then tallied (s.up p).crcFailed else (s.up p).crcFailed) ∧
    t.causes.get Cause.linkErr.number = (if b = true ∧ (s.up p).lost = false then raise .linkErr none s else s).causes.get
      Cause.linkErr.number ∧
    (t.up p).foreign = (s.up p).foreign ∧ (t.up p).unanswered = (s.up p).unanswered ∧
    (t.up p).complete = (s.up p).complete ∧ t.receiver.ready = s.receiver.ready ∧
    Touches [.up p, .selector, .incoming, .receiver, .load, .flags, .holder, .restart, .waiting, .causes] s t ∧
    raisesOnly [.linkErr, .editReleased, .loadAbandoned, .sourceSwitch] s t ∧
    ((s.up p).state ≠ .down →
      (t.up p).queue = (s.up p).queue.take 1 ∧ (t.up p).openFrame = none ∧ (t.up p).completeRun = 0 ∧
      (t.up p).lastOpen = none ∧
      (s.holder = some p → t.flags = s.flags.set 0 false ∧ t.holder = none ∧
        (t.causes.get Cause.editReleased.number).pending = true) ∧
      (s.holder ≠ some p → t.flags = s.flags ∧ t.holder = s.holder) ∧
      (∀ l, s.load = some l → l.owner = p → t.load = none ∧
        (t.causes.get Cause.loadAbandoned.number).pending = true) ∧
      (∀ l, s.load = some l → l.owner ≠ p → t.load = s.load) ∧
      t.waiting = s.waiting.filter (fun i => decide (Instr.requestPort i ≠ some p)) ∧
      t.restart = s.restart.map (fun w => if w.port = p then { w with replyLost := true } else w) ∧
      (s.selector.active = some p →
        t.selector = ⟨if (s.up (otherPort p)).state = .up then some (otherPort p) else none, none⟩ ∧
        t.receiver.phase = .idle ∧ (t.causes.get Cause.sourceSwitch.number).pending = true)) ∧
    ((s.up p).state = .down →
      (t.up p).queue = (s.up p).queue ∧ t.flags = s.flags ∧ t.holder = s.holder ∧ t.load = s.load ∧
      t.selector = s.selector ∧ t.receiver = s.receiver ∧ t.incoming = s.incoming ∧ t.waiting = s.waiting ∧
      t.restart = s.restart)

/-- R1, R2, R8, R71, R74: loss of signal on port D. Port D is DOWN; if it was ALIGNED, the outstanding query is dropped,
every identified slot becomes ABSENT without facts and with a probe due, and TILE-LOST is pending if there was one. The
scan in flight and the cell in transmission go on. A cell cut off is a CRC-failed cell: tallied, with LINK-ERR raised;
whether one was is the operand, the model's choice (log 4). -/
def Obligations.LossOfSignalOnDLosesTiles : Prop :=
  ∀ (b : Bool) (s : State), ∃ t, exec (.lossOfSignal .d b) s = .next t ∧
    t.d = { s.d with
      lost := true
      aligned := false
      goodRun := 0
      failedRun := 0
      crcFailed := if b = true ∧ s.d.lost = false then tallied s.d.crcFailed else s.d.crcFailed } ∧
    t.causes.get Cause.linkErr.number = (if b = true ∧ s.d.lost = false then raise .linkErr none s else s).causes.get
      Cause.linkErr.number ∧
    Touches [.d, .tiles, .query, .causes] s t ∧ raisesOnly [.linkErr, .tileLost] s t ∧
    t.query = { s.query with outstanding := t.query.outstanding, senseList := t.query.senseList } ∧
    (s.d.aligned = true → t.query.outstanding = none ∧
      (∀ k, (s.tile k).presence.identified = true →
        t.tile k = ⟨.absent, none, some (.instant s.clock)⟩ ∧ k ∉ t.query.senseList ∧
        (t.causes.get Cause.tileLost.number).pending = true) ∧
      ∀ k, (s.tile k).presence.identified = false → t.tile k = s.tile k) ∧
    (s.d.aligned = false → t.tiles = s.tiles ∧ t.query = s.query)

/-- R3, R4, R8: a CRC-good cell on a DOWN port is counted and otherwise discarded, whatever it is; the eighth moves the
port to ALIGNED, upstream with no open frame and a complete-frame run of 0, on D with a probe due for every ABSENT slot,
and a query is then chosen (R63). -/
def Obligations.EighthGoodCellAlignsPort : Prop :=
  (∀ (p : Up) (c : Instr) (s : State), upstreamCell c = some p → (s.up p).lost = false → (s.up p).state = .down →
    ((s.up p).goodRun < 7 →
      exec c s = .next (s.withUp p { s.up p with goodRun := (s.up p).goodRun + 1, failedRun := 0 })) ∧
    ((s.up p).goodRun = 7 → ∃ t, exec c s = .next t ∧
      t.up p = { s.up p with goodRun := 8, failedRun := 0, state := .aligned, completeRun := 0, openFrame := none } ∧
      Touches [.up p, .selector, .incoming, .receiver, .causes] s t ∧ raisesOnly [.sourceSwitch] s t)) ∧
  (∀ (c : Instr) (s : State), chainCell c = true → s.d.lost = false → s.d.aligned = false →
    (s.d.goodRun < 7 → exec c s = .next (s.withD { s.d with goodRun := s.d.goodRun + 1, failedRun := 0 })) ∧
    (s.d.goodRun = 7 → ∃ t, exec c s = .next t ∧ Touches [.d, .engine, .tiles, .query] s t ∧
      begins (s.withD { s.d with aligned := true, goodRun := 8, failedRun := 0 }) t ∧ choosesAfter s s.query t ∧
      (∀ k, (s.tile k).presence = .absent → t.tile k = { s.tile k with due := some (.instant s.clock) }) ∧
      ∀ k, (s.tile k).presence ≠ .absent → t.tile k = s.tile k))

/-- R3, R66: a foreign or malformed cell on a port that takes cells adds 1 to the port's foreign or stray tally, as does
on D a reply that does not answer the outstanding query (none is outstanding, or kind, slot or tag differ, or its cell
has not begun); nothing else changes but the good-cell count. -/
def Obligations.ForeignAndStrayCellsAreTallied : Prop :=
  (∀ (p : Up) (c : Cell) (s : State), s.listens p →
    exec (.foreignCell (.up p) c) s =
      .next ((s.heard p).withUp p { (s.heard p).up p with foreign := tallied (s.up p).foreign })) ∧
  (∀ (c : Cell) (s : State), s.listensD →
    exec (.foreignCell .d c) s = .next (s.heardD.withD { s.heardD.d with stray := tallied s.d.stray })) ∧
  (∀ (tag : W16) (slot : Byte) (serial : W64) (w h : W16) (depth : Byte) (hours : BitVec 24) (s : State), s.listensD →
    (∀ q, s.query.outstanding = some q →
      q.kind = .sense ∨ q.slot.val ≠ slot.toNat ∨ q.tag ≠ tag ∨ q.phase = .waiting) →
    exec (.ident tag slot serial w h depth hours) s =
      .next (s.heardD.withD { s.heardD.d with stray := tallied s.d.stray })) ∧
  (∀ (tag : W16) (slot : Byte) (short temperature : W16) (hours : BitVec 24) (s : State), s.listensD →
    (∀ q, s.query.outstanding = some q →
      q.kind = .probe ∨ q.slot.val ≠ slot.toNat ∨ q.tag ≠ tag ∨ q.phase = .waiting) →
    exec (.senseReply tag slot short temperature hours) s =
      .next (s.heardD.withD { s.heardD.d with stray := tallied s.d.stray }))

/-- R17, R186: a tile alert taken on D enters, with its tag and payload unchanged, the queue of each upstream port that is
not DOWN, has a free place and did not send a RESTART that waits, and adds 1 to the dropped-alerts tally for each other
port that is not DOWN. No cause is raised. -/
def Obligations.TileAlertIsForwarded : Prop :=
  ∀ (tag : W16) (payload : List Byte) (s : State), s.listensD →
    let takes (p : Up) : Prop := (s.up p).state ≠ .down ∧ (s.up p).queue.length < 32 ∧
      ∀ w, s.restart = some w → w.port ≠ p
    let drops (p : Up) : Prop := (s.up p).state ≠ .down ∧ ¬ takes p
    ∃ t, exec (.tileAlert tag payload) s = .next t ∧
      (∀ p, takes p → t.up p = { s.up p with queue := (s.up p).queue ++ [⟨0x3F, tag, payload⟩] }) ∧
      (∀ p, ¬ takes p → t.up p = s.up p) ∧
      (drops .ua → drops .ub → t.d.dropped = tallied (tallied s.d.dropped)) ∧
      (∀ p, drops p → ¬ drops (otherPort p) → t.d.dropped = tallied s.d.dropped) ∧
      (¬ drops .ua → ¬ drops .ub → t.d.dropped = s.d.dropped) ∧
      t = ((s.withUa t.ua).withUb t.ub).withD { s.heardD.d with dropped := t.d.dropped }

/-- R1, R14, R54: the oldest cell leaves a return queue when it has been sent; symbols that return end the loss of signal
and leave the port as it is, DOWN; a deassertion of BLANKn changes the line alone. While the signal is lost no cell
arrives: a command that brings one changes nothing (log 5: the model's choice). -/
def Obligations.LineEventsChangeOneThing : Prop :=
  (∀ (p : Up) (s : State), exec (.returnCellSent p) s = .next (s.withUp p { s.up p with queue := (s.up p).queue.tail })) ∧
  (∀ (p : Up) (s : State), exec (.symbolsReturn (.up p)) s = .next (s.withUp p { s.up p with lost := false })) ∧
  (∀ s : State, exec (.symbolsReturn .d) s = .next (s.withD { s.d with lost := false })) ∧
  (∀ s : State, exec .blanknDeassertion s = .next (s.withEngine { s.engine with blank := false })) ∧
  (∀ (p : Up) (c : Instr) (s : State), (s.up p).lost = true → upstreamCell c = some p ∨ c = .crcFailedCell (.up p) →
    exec c s = .next s) ∧
  ∀ (c : Instr) (s : State), s.d.lost = true → chainCell c = true ∨ c = .crcFailedCell .d → exec c s = .next s

/-! ## Frames and the active source -/

/-- R5: the tracker of a port that is not the active source. A FRAME-OPEN opens its frame and its time, ending an open one
uncompleted; the matching FRAME-CLOSE within the limit completes it; another FRAME-CLOSE leaves no frame open and a run
of 0. (A close that brings an ALIGNED port's run to 3 is in `ThirdCompleteFrameTakesPortUp`.) -/
def Obligations.TrackerFollowsFrames : Prop :=
  ∀ (p : Up) (n : W16) (s : State), s.listens p → s.selector.active ≠ some p →
    exec (.frameOpen p n) s = .next ((s.heard p).withUp p
      { (s.heard p).up p with
        lastOpen := some s.clock
        completeRun := if (s.up p).openFrame.isSome then 0 else (s.up p).completeRun
        openFrame := some ⟨n, s.clock⟩ }) ∧
    (∀ f, (s.up p).openFrame = some f → f.number = n → (s.clock - f.openedAt : Int) ≤ s.setting 2 →
      ((s.up p).state = .up ∨ (s.up p).completeRun < 2) →
      exec (.frameClose p n) s = .next ((s.heard p).withUp p
        { (s.heard p).up p with
          openFrame := none
          completeRun := min 3 ((s.up p).completeRun + 1)
          complete := tallied (s.up p).complete })) ∧
    ((∀ f, (s.up p).openFrame = some f → f.number ≠ n) →
      exec (.frameClose p n) s =
        .next ((s.heard p).withUp p { (s.heard p).up p with openFrame := none, completeRun := 0 }))

/-- R6, R11: the close that brings an ALIGNED port's complete-frame run to 3 takes it UP, if the source loss time has not
expired since its last FRAME-OPEN, and with no port UP before it becomes the active source with SOURCE-SWITCH; if the
time has expired the port stays ALIGNED with a run of 0. With the other port the active source, R12: it stays active when
it is the preferred one; else the switch is made at once in IDLE and recorded as pending in RECEIVING. In no case is the
close that takes its port UP handed to the frame receiver (log 7: the model's choice), so it raises no FRAME-SEQ. -/
def Obligations.ThirdCompleteFrameTakesPortUp : Prop :=
  (∀ (p : Up) (n : W16) (f : OpenFrame) (at_ : Nat) (s : State), s.listens p → (s.up p).state = .aligned →
    s.selector.active = none → (s.up (otherPort p)).state ≠ .up →
    (s.up p).completeRun = 2 → (s.up p).openFrame = some f → f.number = n → (s.up p).lastOpen = some at_ →
    at_ ≤ s.clock →
    ((s.clock - at_ : Int) < s.setting 1 →
      exec (.frameClose p n) s = .next (raise .sourceSwitch none (((s.heard p).withUp p
        { (s.heard p).up p with
          openFrame := none
          completeRun := 3
          complete := tallied (s.up p).complete
          state := .up }).withSelector ⟨some p, none⟩))) ∧
    (s.setting 1 ≤ (s.clock - at_ : Int) → 0 ≤ s.setting 1 →
      exec (.frameClose p n) s = .next ((s.heard p).withUp p
        { (s.heard p).up p with openFrame := none, completeRun := 0, complete := tallied (s.up p).complete }))) ∧
  ∀ (p : Up) (n : W16) (f : OpenFrame) (at_ : Nat) (s : State), s.listens p → (s.up p).state = .aligned →
    s.selector.active = some (otherPort p) → (s.up (otherPort p)).state = .up → 0 ≤ s.setting 1 →
    (s.up p).completeRun = 2 → (s.up p).openFrame = some f → f.number = n → (s.up p).lastOpen = some at_ →
    at_ ≤ s.clock →
    let preferred : Up := if s.setting 0 = 1 then .ub else .ua
    let u := (s.heard p).withUp p
      { (s.heard p).up p with
        openFrame := none
        completeRun := 3
        complete := tallied (s.up p).complete
        state := .up }
    ((s.clock - at_ : Int) < s.setting 1 →
      (preferred = otherPort p → exec (.frameClose p n) s = .next (u.withSelector ⟨some (otherPort p), none⟩)) ∧
      (preferred = p → s.receiving = false →
        exec (.frameClose p n) s = .next (raise .sourceSwitch none (u.withSelector ⟨some p, none⟩))) ∧
      (preferred = p → s.receiving = true →
        exec (.frameClose p n) s = .next (u.withSelector ⟨some (otherPort p), some p⟩))) ∧
    (s.setting 1 ≤ (s.clock - at_ : Int) →
      exec (.frameClose p n) s = .next ((s.heard p).withUp p
        { (s.heard p).up p with openFrame := none, completeRun := 0, complete := tallied (s.up p).complete }))

/-- R6, R11: an UP port leaves for ALIGNED when the source loss time has expired since its last FRAME-OPEN: its run is 0,
its open frame stays open, and if it was the active source the other port takes that role if it is UP, else none does.
Before that time the command changes nothing (log 3: the model's reading). -/
def Obligations.SourceLossTimeTakesPortFromUp : Prop :=
  ∀ (p : Up) (at_ : Nat) (s : State), (s.up p).state = .up → (s.up p).lastOpen = some at_ → at_ ≤ s.clock →
    0 ≤ s.setting 1 →
    (s.setting 1 ≤ (s.clock - at_ : Int) → ∃ t, exec (.sourceLossTimeExpiry p) s = .next t ∧
      t.up p = { s.up p with state := .aligned, completeRun := 0 } ∧
      (s.selector.active = some p →
        t.selector = ⟨if (s.up (otherPort p)).state = .up then some (otherPort p) else none, none⟩ ∧
        t.receiver = ⟨.idle, s.receiver.ready⟩ ∧ (t.causes.get Cause.sourceSwitch.number).pending = true) ∧
      Touches [.up p, .selector, .incoming, .receiver, .causes] s t ∧ raisesOnly [.sourceSwitch] s t) ∧
    ((s.clock - at_ : Int) < s.setting 1 → exec (.sourceLossTimeExpiry p) s = .next s)

/-- R37: a FRAME-OPEN of the active source begins a frame: every CANVAS slot's incoming image is a copy of its shown
image. A READY frame is dropped with FRAME-DROP; an open frame is abandoned with FRAME-SEQ, and with a switch pending
the switch is carried out and no frame begins. -/
def Obligations.FrameOpenBeginsFrame : Prop :=
  ∀ (p : Up) (n : W16) (s : State), s.listens p → s.selector.active = some p →
    ∃ t, exec (.frameOpen p n) s = .next t ∧
      t.up p = { (s.heard p).up p with
        lastOpen := some s.clock
        completeRun := if (s.up p).openFrame.isSome then 0 else (s.up p).completeRun
        openFrame := some ⟨n, s.clock⟩ } ∧
      (s.receiving = false → s.receiver.ready = false →
        t = ((s.withUp p (t.up p)).withIncoming t.incoming).withReceiver ⟨.receiving n s.clock, false⟩) ∧
      (s.receiving = false → s.receiver.ready = true →
        t = raise .frameDrop none
          (((s.withUp p (t.up p)).withIncoming t.incoming).withReceiver ⟨.receiving n s.clock, false⟩)) ∧
      (s.receiving = true → s.selector.toSwitch = none →
        t = raise .frameSeq none (((s.withUp p (t.up p)).withIncoming t.incoming).withReceiver
          ⟨.receiving n s.clock, s.receiver.ready⟩)) ∧
      (s.receiving = false ∨ s.selector.toSwitch = none →
        ∀ k, (s.plans.get k).isCanvas = true → t.incoming.get k = s.shown.get k) ∧
      (∀ q, s.receiving = true → s.selector.toSwitch = some q →
        t = raise .sourceSwitch none (raise .frameSeq none ((((s.withUp p (t.up p)).withIncoming
          (Table.replicate 16 [])).withReceiver ⟨.idle, s.receiver.ready⟩).withSelector ⟨some q, none⟩)))

/-- R34, R38: a PIXEL-RUN of the active source in RECEIVING changes incoming images alone: the pixel at each canvas place
of the run that lies in a slot's footprint is that slot's pixel at the mapped native place, by its lower 12 bits, and
every other pixel of the slot is as before. In IDLE, and from a port that is not the active source, it is discarded. A
malformed run, by its count, line or last column, is a foreign cell (R3; the command keeps its row, log 17). -/
def Obligations.PixelRunPlacesPixels : Prop :=
  (∀ (p : Up) (line column : W16) (pixels : List RawPixel) (s : State), s.listens p →
    runMalformed line.toNat column.toNat pixels.length = false →
    (s.selector.active = some p → s.receiving = true → ∃ t, exec (.pixelRun p line column pixels) s = .next t ∧
      t = (s.heard p).withIncoming t.incoming ∧
      ∀ (k : SlotId) (c : CanvasPlan), s.plans.get k = .canvas c → c.width ≤ 256 → c.height ≤ 256 →
        Image.wf (s.incoming.get k) = true →
        (∀ (i : Nat) (h : i < pixels.length) (x y : Nat), c.native line.toNat (column.toNat + i) = some (x, y) →
          Image.pixel (t.incoming.get k) (pixelKey x y) = (pixels[i]).map (BitVec.setWidth 12)) ∧
        ∀ key, (∀ i x y, i < pixels.length → c.native line.toNat (column.toNat + i) = some (x, y) →
            key ≠ pixelKey x y) →
          Image.pixel (t.incoming.get k) key = Image.pixel (s.incoming.get k) key) ∧
    (s.selector.active ≠ some p ∨ s.receiving = false → exec (.pixelRun p line column pixels) s = .next (s.heard p))) ∧
  ∀ (p : Up) (line column : W16) (pixels : List RawPixel) (s : State), s.listens p →
    pixels.length = 0 ∨ 128 < pixels.length ∨ 4095 < line.toNat ∨ 4096 < column.toNat + pixels.length →
    exec (.pixelRun p line column pixels) s =
      .next ((s.heard p).withUp p { (s.heard p).up p with foreign := tallied (s.up p).foreign })

/-- R33, R24: the native place of each footprint pixel is that of the table, the mirror reversing the column offset first;
every native pixel of the implied size receives exactly one footprint pixel, and each footprint pixel reaches a native
pixel of that size; a canvas pixel outside the footprint reaches none. -/
def Obligations.FootprintMapsOntoTile : Prop :=
  ∀ c : CanvasPlan,
    (∀ line column, c.line ≤ line → line < c.line + c.height → c.column ≤ column → column < c.column + c.width →
      ∃ x y, c.native line column = some (x, y) ∧ x < c.implied.1 ∧ y < c.implied.2) ∧
    (∀ x y, x < c.implied.1 → y < c.implied.2 →
      ∃ line column, c.native line column = some (x, y) ∧
        ∀ l m, c.native l m = some (x, y) → l = line ∧ m = column) ∧
    (∀ u v, u < c.width → v < c.height →
      let u' := if c.mirror then c.width - 1 - u else u
      c.native (c.line + v) (c.column + u) = some (match c.orientation with
        | .deg0 => (u', v)
        | .deg90 => (v, c.width - 1 - u')
        | .deg180 => (c.width - 1 - u', c.height - 1 - v)
        | .deg270 => (c.height - 1 - v, u'))) ∧
    (∀ line column, line < c.line ∨ c.line + c.height ≤ line ∨ column < c.column ∨ c.column + c.width ≤ column →
      c.native line column = none) ∧
    c.implied = (match c.orientation with
      | .deg0 => (c.width, c.height)
      | .deg90 => (c.height, c.width)
      | .deg180 => (c.width, c.height)
      | .deg270 => (c.height, c.width))

/-- R5, R12, R36, R39, R46, R53: a FRAME-CLOSE of the active source. The tracker completes or closes its frame. One in
IDLE raises FRAME-SEQ; a mismatched one abandons the frame with FRAME-SEQ; the matching one makes the frame READY. A
pending switch is then carried out. With a scan in flight nothing else changes; with the engine IDLE the frame is swapped
in and a scan starts at once, LIVE, with the hold timer restarted and the repeat timer stopped, its binding the copy of
what the part then holds (R48) and line 0 of its first sent slot formed (R50). -/
def Obligations.FrameCloseEndsFrame : Prop :=
  ∀ (p : Up) (n : W16) (s : State), s.listens p → s.selector.active = some p → (s.up p).state = .up →
    ∃ t, exec (.frameClose p n) s = .next t ∧
      (∀ f, (s.up p).openFrame = some f → f.number = n → t.up p = { (s.heard p).up p with
          openFrame := none
          completeRun := min 3 ((s.up p).completeRun + 1)
          complete := tallied (s.up p).complete }) ∧
      ((∀ f, (s.up p).openFrame = some f → f.number ≠ n) →
        t.up p = { (s.heard p).up p with openFrame := none, completeRun := 0 }) ∧
      (s.receiver.phase = .idle → t = raise .frameSeq none (s.withUp p (t.up p))) ∧
      (∀ m at_, s.receiver.phase = .receiving m at_ → m ≠ n →
        let u := raise .frameSeq none (((s.withUp p (t.up p)).withIncoming (Table.replicate 16 [])).withReceiver
          ⟨.idle, s.receiver.ready⟩)
        (s.selector.toSwitch = none → t = u) ∧
        ∀ q, s.selector.toSwitch = some q → t = raise .sourceSwitch none (u.withSelector ⟨some q, none⟩)) ∧
      (∀ at_, s.receiver.phase = .receiving n at_ → s.engine.scan.isSome = true →
        let u := (s.withUp p (t.up p)).withReceiver ⟨.idle, true⟩
        (s.selector.toSwitch = none → t = u) ∧
        ∀ q, s.selector.toSwitch = some q → t = raise .sourceSwitch none (u.withSelector ⟨some q, none⟩)) ∧
      (∀ at_, s.receiver.phase = .receiving n at_ → s.engine.scan = none →
        t.receiver = ⟨.idle, false⟩ ∧
        (∀ k, t.shown.get k = if (s.plans.get k).isCanvas then s.incoming.get k else s.shown.get k) ∧
        t.engine.scan.isSome = true ∧ t.engine.number = s.engine.number + 1 ∧ t.engine.repeatStart = none ∧
        t.engine.display = .live ∧ t.engine.holdStart = s.clock ∧ t.engine.blank = s.engine.blank ∧
        (∀ sc, t.engine.scan = some sc → boundFrom t sc.binding ∧ scanJustStarted (s.d.tx = none) t sc) ∧
        t.d = { s.d with tx := t.d.tx } ∧ (s.d.tx.isSome = true → t.d.tx = s.d.tx) ∧
        Touches [.up p, .selector, .shown, .incoming, .receiver, .engine, .drift, .level, .d, .query, .causes] s t ∧
        raisesOnly [.levelOver, .sourceSwitch] s t ∧
        t.selector = (match s.selector.toSwitch with
          | some q => ⟨some q, none⟩
          | none => s.selector))

/-- R5, R12, R40, R53, R92: each limit acts when its time has elapsed since the event that started it: the tracker closes
its frame uncompleted; the receiver abandons its frame with FRAME-LATE, the active port's tracker closes it uncompleted
too, and a pending switch is carried out; the run becomes
BLANKED with SOURCE-LOST; the load is abandoned with LOAD-ABANDONED. Taken before its time the command changes nothing
(log 3: the model's reading). -/
def Obligations.LimitsActWhenExpired : Prop :=
  ∀ s : State, 0 ≤ s.setting 2 → 0 ≤ s.setting 3 →
    (∀ (p : Up) (f : OpenFrame), (s.up p).openFrame = some f → f.openedAt ≤ s.clock →
      exec (.trackerLimitExpiry p) s = .next (if s.setting 2 ≤ (s.clock - f.openedAt : Int) then
        s.withUp p { s.up p with openFrame := none, completeRun := 0 } else s)) ∧
    (∀ (n : W16) (at_ : Nat), s.receiver.phase = .receiving n at_ → at_ ≤ s.clock →
      let closed := match s.selector.active with
        | some p => if (s.up p).openFrame.isSome then s.withUp p { s.up p with openFrame := none, completeRun := 0 } else s
        | none => s
      let u := raise .frameLate none ((closed.withIncoming (Table.replicate 16 [])).withReceiver ⟨.idle, s.receiver.ready⟩)
      exec .frameOpenLimitExpiry s = .next (if s.setting 2 ≤ (s.clock - at_ : Int) then
        match s.selector.toSwitch with
          | some q => raise .sourceSwitch none (u.withSelector ⟨some q, none⟩)
          | none => u
        else s)) ∧
    (s.engine.holdStart ≤ s.clock →
      exec .holdLimitExpiry s = .next (
        if s.engine.display = .live ∧ s.setting 3 ≤ (s.clock - s.engine.holdStart : Int) then
          raise .sourceLost none (s.withEngine { s.engine with display := .blanked }) else s)) ∧
    (∀ l, s.load = some l → l.openedAt ≤ s.clock →
      exec .loadLimitExpiry s = .next (if 2000 ≤ s.clock - l.openedAt then
        raise .loadAbandoned none (s.withLoad none) else s))

/-! ## The output scan -/

/-- R46, R47, R154, R161, R162: at the expiry of the repeat timer in IDLE a scan starts: the scan number rises by 1, each
identified slot's applied factors move toward their targets by at most the slew step, the effective level is the wall
level, or with the guard on the smaller of it and the run headroom, and LEVEL-OVER is pending when the wall level exceeds
the headroom. Run headroom and limiting slot are those of the slewed factors (R159, R160), and the scan's binding is the
copy of what the part then holds (R48); its running counts begin at 0 and line 0 of its first sent slot is formed (R50,
R115). Before the time nothing changes (log 3: the model's reading). -/
def Obligations.RepeatTimerStartsScan : Prop :=
  ∀ (at_ : Nat) (s : State), s.engine.scan = none → s.engine.repeatStart = some at_ → at_ ≤ s.clock →
    0 ≤ s.setting 4 → s.receiver.ready = false →
    (s.setting 4 ≤ (s.clock - at_ : Int) → ∃ t, exec .repeatTimerExpiry s = .next t ∧
      t.engine = { s.engine with scan := t.engine.scan, number := s.engine.number + 1, repeatStart := none } ∧
      t.engine.scan.isSome = true ∧ Touches [.engine, .drift, .level, .causes, .d, .query] s t ∧
      raisesOnly [.levelOver] s t ∧ t.d = { s.d with tx := t.d.tx } ∧ (s.d.tx.isSome = true → t.d.tx = s.d.tx) ∧
      t.level.wall = s.level.wall ∧
      (∀ k, (s.tile k).presence.identified = true →
        t.drift.get k = { s.drift.get k with
          applied := (s.drift.get k).applied.zip (fun (a d : Nat) =>
            if (a : Int) - (d : Int) ≤ s.setting 8 ∧ (d : Int) - (a : Int) ≤ s.setting 8 then d
            else if a < d then a + (s.setting 8).toNat else a - (s.setting 8).toNat) (s.drift.get k).target }) ∧
      (∀ k, (s.tile k).presence.identified = false → t.drift.get k = s.drift.get k) ∧
      t.level.effective = (if s.setting 15 = 1 then min s.level.wall t.level.headroom else s.level.wall) ∧
      t.level.headroom ≤ 65536 ∧ (t.level.limiting = none → t.level.headroom = 65536) ∧
      headroomIs t t.level.headroom t.level.limiting ∧
      (∀ sc, t.engine.scan = some sc → boundFrom t sc.binding ∧ scanJustStarted (s.d.tx = none) t sc) ∧
      (t.level.headroom < s.level.wall → (t.causes.get Cause.levelOver.number).pending = true)) ∧
    ((s.clock - at_ : Int) < s.setting 4 → exec .repeatTimerExpiry s = .next s)

/-- R109, R110: the combined gains that a scan start binds for a sent slot are the exact products of its uniformity gain,
its applied drift factor and the effective level over 2^28, rounded half up; with the level guard on, none of a slot that
is not dark exceeds 65,536, which is 1.0. -/
def Obligations.CombinedGainIsExactAndGuarded : Prop :=
  ∀ (s : State) (sc : Scan) (k : SlotId) (c : SentCopy), (startScan s).engine.scan = some sc →
    (sc.binding.slots.get k).sent = some c →
    let t := startScan s
    let gain (u a : Nat) : Nat := (u * a * t.level.effective + 134217728) / 268435456
    let u := c.calibration.gains
    let a := (t.drift.get k).applied
    c.gain = ⟨gain u.r a.r, gain u.g a.g, gain u.b a.b⟩ ∧
    (s.setting 15 = 1 → (sc.binding.slots.get k).dark = false →
      c.gain.r ≤ 65536 ∧ c.gain.g ≤ 65536 ∧ c.gain.b ≤ 65536)

/-- R50, R64: when a TILE-PIXELS cell has been sent, the next cell begins: a probe handed over goes first; otherwise the
scan's next formed cell; and after the last line of the last sent slot the TILE-SHOW with the scan number. When the last
cell of a line has left, the next line is formed from the bound values and the images as they stand (R51, R103, R115): its
cells carry at most 64 pixels each, left to right, its top clamps enter the slot's running count, and the scan goes on
to the slot's next line, or to line 0 of the next sent slot. That a cell begins at once, and a line is formed at that
moment, are the model's readings (log 16, log 14). -/
def Obligations.NextCellFollowsTilePixels : Prop :=
  ∀ (c : Cell) (sc : Scan) (s : State), s.d.tx = some c → c.kind = 0x40 → s.engine.scan = some sc → s.restart = none →
    (∀ c1 rest, sc.cells = c1 :: rest → (∀ q, s.query.outstanding = some q → q.phase ≠ .waiting) →
      exec .tilePixelsSent s = .next ((s.withD { s.d with tx := some c1 }).withEngine
        { s.engine with scan := some { sc with cells := rest } })) ∧
    (∀ q, s.query.outstanding = some q → q.kind = .probe → q.phase = .waiting → sc.cells ≠ [] →
      exec .tilePixelsSent s = .next ((s.withD { s.d with tx := some ⟨0x42, q.tag, [BitVec.ofNat 8 q.slot.val]⟩ }).withQuery
        { s.query with outstanding := some { q with phase := .sending } })) ∧
    (sc.cells = [] → sc.slot = 16 → (∀ q, s.query.outstanding = some q → q.phase ≠ .waiting) →
      exec .tilePixelsSent s = .next (s.withD { s.d with tx := some ⟨0x41, 0, be16 s.engine.number⟩ })) ∧
    (∀ (k : SlotId) (x : BoundSlot) (c : SentCopy) (z : BoundSize), sc.cells = [] → sc.slot = k.val →
      sc.binding.slots.get k = x → x.sent = some c → x.size = some z → 0 < z.width →
      (∀ q, s.query.outstanding = some q → q.phase ≠ .waiting) →
      let y := sc.line
      let formed := formedLine s sc.binding k c z y
      ∃ c0 rest slot line, formed.1 = c0 :: rest ∧
        (y + 1 < z.height → slot = k.val ∧ line = y + 1) ∧
        (z.height ≤ y + 1 → line = 0 ∧ k.val < slot ∧ slot ≤ 16 ∧
          (∀ j : SlotId, k < j → j.val < slot → (sc.binding.slots.get j).sent = none) ∧
          ∀ j : SlotId, j.val = slot → (sc.binding.slots.get j).sent.isSome = true) ∧
        exec .tilePixelsSent s = .next ((s.withD { s.d with tx := some c0 }).withEngine { s.engine with
          scan := some { sc with
            running := sc.running.set k (sc.running.get k + formed.2)
            slot := slot
            line := line
            cells := rest } }))

/-- R36, R45, R55, R145: the scan end. Every slot's limit count becomes the running count of the scan, capped at 65,535,
or 0 for a skipped slot, its peak the larger of the two, and PIXEL-LIMIT is pending when a count exceeds the bound
threshold; the divider count rises or returns to 0 at setting 7, and then a query is chosen, senses allowed (R63, R64,
R146, R148), which begins before a new scan's first cell. Without a READY frame the engine is IDLE with the repeat timer
started; with one, the frame is swapped in and a new scan starts (R50, R115: counts at 0, line 0 of its first sent slot).
A RESTART that waits is due from now on, and no cell begins before it (log 10: the model's reading). BLANKn assertions
kept during the TILE-SHOW then act, each starting a scan that binds the line as it stands (R54; that each acts is log 9,
the model's reading). -/
def Obligations.ScanEndCompletesScan : Prop :=
  ∀ (c : Cell) (sc : Scan) (s : State), s.d.tx = some c → c.kind = 0x41 → s.engine.scan = some sc →
    0 ≤ s.setting 7 →
    ∃ t, exec .scanEnd s = .next t ∧
      (∀ k, (t.counts.get k).last =
          (if (sc.binding.slots.get k).sent.isSome then min 65535 (sc.running.get k) else 0) ∧
        (t.counts.get k).peak = max (s.counts.get k).peak (t.counts.get k).last ∧
        (sc.binding.limitThreshold < (t.counts.get k).last →
          (t.causes.get Cause.pixelLimit.number).pending = true)) ∧
      t.query.divider = (if s.setting 7 ≤ (s.query.divider + 1 : Int) then 0 else s.query.divider + 1) ∧
      Touches [.shown, .incoming, .receiver, .engine, .drift, .level, .causes, .d, .query, .counts, .restart] s t ∧
      raisesOnly [.pixelLimit, .levelOver] s t ∧ t.d = { s.d with tx := t.d.tx } ∧ t.restart = s.restart.map (fun w => { w with scanEnded := true }) ∧
      t.engine.deferredBlanks = 0 ∧
      (let rose : Nat := s.query.divider + 1
       let counted : QueryUnit :=
        if s.setting 7 ≤ (rose : Int) then { s.query with divider := 0, roundDue := true }
        else { s.query with divider := rose }
       ((∀ q, s.query.outstanding = some q → q.phase ≠ .waiting) →
        choosesNext true (if s.restart = none then .sending else .waiting) (s.withQuery counted) t.query) ∧
       (∀ q, s.query.outstanding = some q → q.phase = .waiting → s.restart = none →
        t.query = { counted with outstanding := some { q with phase := .sending } }) ∧
       (∀ q, s.restart = none → t.query.outstanding = some q → s.query.outstanding ≠ some q →
        t.d.tx = some ⟨if q.kind = .probe then 0x42 else 0x43, q.tag, [BitVec.ofNat 8 q.slot.val]⟩)) ∧
      (s.engine.deferredBlanks = 0 → s.receiver.ready = false → t.engine.scan = none ∧ t.engine.repeatStart = some s.clock ∧
        t.engine.number = s.engine.number ∧ t.engine.display = s.engine.display ∧
        t.engine.holdStart = s.engine.holdStart ∧ t.engine.blank = s.engine.blank ∧ t.shown = s.shown ∧
        t.incoming = s.incoming ∧ t.receiver = s.receiver ∧ t.drift = s.drift ∧ t.level = s.level) ∧
      (s.engine.deferredBlanks = 0 → s.receiver.ready = true → t.engine.scan.isSome = true ∧ t.engine.number = s.engine.number + 1 ∧
        t.engine.display = .live ∧ t.engine.holdStart = s.clock ∧ t.receiver.ready = false ∧
        ∀ k, t.shown.get k = if (s.plans.get k).isCanvas then s.incoming.get k else s.shown.get k) ∧
      (∀ sc', t.engine.scan = some sc' → boundFrom t sc'.binding ∧ scanJustStarted True t sc') ∧
      (0 < s.engine.deferredBlanks → t.engine.repeatStart = none ∧
        (∃ sc', t.engine.scan = some sc' ∧ sc'.binding.blank = s.engine.blank) ∧ t.engine.blank = s.engine.blank ∧
        t.receiver.ready = false ∧
        t.engine.number = s.engine.number + BitVec.ofNat 16 s.engine.deferredBlanks + (if s.receiver.ready then 1 else 0) ∧
        (s.receiver.ready = false → t.shown = s.shown ∧ t.incoming = s.incoming ∧ t.engine.display = s.engine.display ∧
          t.engine.holdStart = s.engine.holdStart) ∧
        (s.receiver.ready = true → t.engine.display = .live ∧ t.engine.holdStart = s.clock ∧
          ∀ k, t.shown.get k = if (s.plans.get k).isCanvas then s.incoming.get k else s.shown.get k))

/-- R54: an assertion of BLANKn with no TILE-SHOW in transmission aborts the scan in flight, or stops the repeat timer,
and starts a scan at once that binds BLANKn asserted, its running counts at 0 and line 0 of its first sent slot formed
(R50, R115); the limit counts keep their values. That it does so too between a scan end and the RESTART that waited for it
is log 28 (the model's choice). An assertion while the TILE-SHOW is sent leaves the scan as it is (R45); the model keeps
it until the scan end (log 9). -/
def Obligations.BlanknAssertionStartsBlackScan : Prop :=
  ∀ s : State, s.engine.blank = false →
    ((∀ c, s.d.tx = some c → c.kind ≠ 0x41) → ∃ t, exec .blanknAssertion s = .next t ∧ t.engine.blank = true ∧
      (∃ sc, t.engine.scan = some sc ∧ sc.binding.blank = true ∧ boundFrom t sc.binding ∧
        scanJustStarted (s.d.tx = none) t sc) ∧ t.engine.number = s.engine.number + 1 ∧
      t.engine.repeatStart = none ∧ t.receiver.ready = false ∧ t.d = { s.d with tx := t.d.tx } ∧
      (s.d.tx.isSome = true → t.d.tx = s.d.tx) ∧
      Touches [.shown, .incoming, .receiver, .engine, .drift, .level, .causes, .d, .query] s t ∧
      raisesOnly [.levelOver] s t) ∧
    (∀ c, s.d.tx = some c → c.kind = 0x41 →
      (s.restart = none → exec .blanknAssertion s = .next (s.withEngine
        { s.engine with blank := true, deferredBlanks := s.engine.deferredBlanks + 1 })) ∧
      ∀ w, s.restart = some w → exec .blanknAssertion s = .next ((s.withEngine
        { s.engine with blank := true }).withRestart (some { w with blanks := w.blanks + 1 })))

/-! ## The chain -/

/-- R62: when the last byte of the outstanding query's cell leaves, its sent time is the present part time. With no scan
in flight the transmitter is then free and nothing else changes. -/
def Obligations.SentTimeIsFixedAtLastByte : Prop :=
  ∀ (q : Query) (c : Cell) (s : State), s.query.outstanding = some q → q.phase = .sending → s.d.tx = some c →
    let sent : QueryUnit := { s.query with outstanding := some { q with phase := .sent s.clock } }
    (c.kind = 0x42 → ∃ t, exec .probeSent s = .next t ∧ t.query = sent ∧
      Touches [.d, .engine, .query] s t ∧ begins (s.withD { s.d with tx := none }) t ∧
      (s.engine.scan = none → t = (s.withQuery sent).withD { s.d with tx := none })) ∧
    (c.kind = 0x43 → ∃ t, exec .senseRequestSent s = .next t ∧ t.query = sent ∧
      Touches [.d, .engine, .query] s t ∧ begins (s.withD { s.d with tx := none }) t ∧
      (s.engine.scan = none → t = (s.withQuery sent).withD { s.d with tx := none }))

/-- R60, R70, R143: an accepted IDENT gives the slot its facts as reported, and its state: MISFIT for an unsupported tile
or one whose size is not the implied size of the slot's CANVAS plan; else MATCHED when the library holds a record of its
serial and size; else UNKNOWN. The cause of that state and TILE-NEW are pending, the slot has no probe-due time, its
reading is absent, its miss count 0 and its applied factors equal its targets, which are 65,536 unless it is MATCHED, and
then those its record and hours call for (R139, R141). The query is over (R66), and the next is chosen (R63). -/
def Obligations.AcceptedIdentIdentifiesTile : Prop :=
  ∀ (q : Query) (tag : W16) (slot : Byte) (serial : W64) (w h : W16) (depth : Byte) (hours : BitVec 24) (s : State),
    s.listensD → s.query.outstanding = some q → q.kind = .probe → q.slot.val = slot.toNat → q.tag = tag →
    q.phase ≠ .waiting →
    ∃ t, exec (.ident tag slot serial w h depth hours) s = .next t ∧
      (t.tile q.slot).facts = some ⟨serial, w, h, depth, hours⟩ ∧ (t.tile q.slot).due = none ∧
      (t.tile q.slot).presence =
        (let size (n : Nat) : Bool := decide (16 ≤ n ∧ n ≤ 256 ∧ n % 8 = 0)
         let fits : Bool :=
          match s.plans.get q.slot with
          | .canvas c => decide (c.implied = (w.toNat, h.toNat))
          | _ => true
         let known : Bool :=
          match findRecord s.records serial with
          | some r => decide (recWidth r = w.toNat ∧ recHeight r = h.toNat)
          | none => false
         if size w.toNat && size h.toNat && (depth == 12 || depth == 14 || depth == 16) && fits then
          (if known then .matched else .unknown) else .misfit) ∧
      (t.causes.get Cause.tileNew.number).pending = true ∧
      ((t.tile q.slot).presence = .misfit → (t.causes.get Cause.misfit.number).pending = true) ∧
      ((t.tile q.slot).presence = .unknown → (t.causes.get Cause.unknownTile.number).pending = true) ∧
      (t.drift.get q.slot).reading = none ∧ (t.drift.get q.slot).miss = 0 ∧
      (t.drift.get q.slot).applied = (t.drift.get q.slot).target ∧
      ((t.tile q.slot).presence ≠ .matched → (t.drift.get q.slot).target = ⟨65536, 65536, 65536⟩) ∧
      ((t.tile q.slot).presence = .matched → retargeted q.slot (t.drift.get q.slot) t) ∧
      t.query.outstanding ≠ some q ∧ choosesAfter s { s.query with outstanding := none } t ∧
      (∀ j, j ≠ q.slot → t.tile j = s.tile j ∧ t.drift.get j = s.drift.get j) ∧
      Touches [.d, .engine, .tiles, .query, .drift, .causes] s t ∧
      raisesOnly [.tileNew, .misfit, .unknownTile, .driftRange] s t ∧ begins s.heardD t

/-- R72, R149, R150, R151, R71: an accepted SENSE-REPLY. With the low 16 bits of the stored serial its reading is stored,
the temperature clamped to -160 to 500 and the hours never below those held, not stale, miss count 0; the applied factors
and the presence stay, and the targets of a MATCHED or UNKNOWN slot are computed afresh (R141), those of a MISFIT slot
kept. With another short identity the slot becomes ABSENT with TILE-LOST, and the drift record keeps its values. The query
is over (R66; that its tag is the one taken last is `tagLaw`, R62), and the next is chosen (R63). -/
def Obligations.SenseReplyStoresReadingOrLosesTile : Prop :=
  ∀ (q : Query) (f : TileFacts) (tag : W16) (slot : Byte) (short temperature : W16) (hours : BitVec 24) (s : State),
    s.listensD → s.query.outstanding = some q → q.kind = .sense → q.slot.val = slot.toNat → q.tag = tag →
    q.phase ≠ .waiting → (s.tile q.slot).facts = some f →
    ∃ t, exec (.senseReply tag slot short temperature hours) s = .next t ∧
      (∀ j, j ≠ q.slot → t.tile j = s.tile j ∧ t.drift.get j = s.drift.get j) ∧
      Touches [.d, .engine, .tiles, .query, .drift, .causes] s t ∧ raisesOnly [.driftRange, .tileLost] s t ∧
      begins s.heardD t ∧ (tagLaw s → t.query.outstanding ≠ some q) ∧
      choosesAfter s { s.query with
        outstanding := none
        senseList := if f.serial.setWidth 16 = short then s.query.senseList
          else s.query.senseList.filter fun j => decide (j ≠ q.slot) } t ∧
      (f.serial.setWidth 16 = short →
        t.tile q.slot = s.tile q.slot ∧
        (t.drift.get q.slot).reading = some ⟨max (-160) (min 500 temperature.toInt),
          max hours.toNat (match (s.drift.get q.slot).reading with
            | some r => r.hours
            | none => f.hours.toNat), false⟩ ∧
        (t.drift.get q.slot).miss = 0 ∧ (t.drift.get q.slot).applied = (s.drift.get q.slot).applied ∧
        (temperature.toInt < -160 ∨ 500 < temperature.toInt →
          (t.causes.get Cause.driftRange.number).pending = true) ∧
        ((s.tile q.slot).presence = .misfit → (t.drift.get q.slot).target = (s.drift.get q.slot).target) ∧
        ((s.tile q.slot).presence = .matched ∨ (s.tile q.slot).presence = .unknown →
          retargeted q.slot (t.drift.get q.slot) t)) ∧
      (f.serial.setWidth 16 ≠ short →
        t.tile q.slot = ⟨.absent, none, some (.instant s.clock)⟩ ∧ t.drift.get q.slot = s.drift.get q.slot ∧
        (t.causes.get Cause.tileLost.number).pending = true)

/-- R65, R69, R73, R152: a query times out when setting 6 has elapsed since its sent time, and not before (log 3: the
model's reading): it is no longer outstanding, and the next query is chosen (R63). A probe's slot stays ABSENT, its next
probe due one probe interval (setting 5 as it then stands) after the sent time and not before, with no cause raised. A
sense is a miss: the count rises by 1, a reading becomes stale, SENSE-STALE is raised, and the third miss makes the slot
ABSENT with TILE-LOST. -/
def Obligations.QueryTimesOut : Prop :=
  ∀ (q : Query) (at_ : Nat) (s : State), s.query.outstanding = some q → q.phase = .sent at_ → at_ ≤ s.clock →
    0 ≤ s.setting 6 →
    ((s.clock - at_ : Int) < s.setting 6 → exec .probeTimeout s = .next s ∧ exec .senseTimeout s = .next s) ∧
    (q.kind = .probe → s.setting 6 ≤ (s.clock - at_ : Int) → ∃ t, exec .probeTimeout s = .next t ∧
      t.tile q.slot = { s.tile q.slot with due := some (.afterProbe at_) } ∧
      t.query.outstanding ≠ some q ∧ choosesAfter s { s.query with outstanding := none } t ∧
      (∀ j, j ≠ q.slot → t.tile j = s.tile j) ∧ Touches [.d, .engine, .tiles, .query] s t ∧ begins s t ∧
      ∀ u : State, u.tile q.slot = t.tile q.slot → (s.tile q.slot).presence = .absent → 0 ≤ u.setting 5 → at_ ≤ u.clock →
        ((u.clock - at_ : Int) < u.setting 5 → exec (.probeDue q.slot) u = .next u) ∧
        (u.setting 5 ≤ (u.clock - at_ : Int) → probeIsDue u q.slot = true)) ∧
    (q.kind = .sense → s.setting 6 ≤ (s.clock - at_ : Int) → ∃ t, exec .senseTimeout s = .next t ∧
      (t.drift.get q.slot).miss = min 3 ((s.drift.get q.slot).miss + 1) ∧
      (t.drift.get q.slot).reading = (s.drift.get q.slot).reading.map (fun r => { r with stale := true }) ∧
      (t.drift.get q.slot).target = (s.drift.get q.slot).target ∧
      (t.drift.get q.slot).applied = (s.drift.get q.slot).applied ∧
      (t.causes.get Cause.senseStale.number).pending = true ∧ t.query.outstanding ≠ some q ∧
      choosesAfter s { s.query with
        outstanding := none
        senseList := if (s.drift.get q.slot).miss < 2 then s.query.senseList
          else s.query.senseList.filter fun j => decide (j ≠ q.slot) } t ∧
      (∀ j, j ≠ q.slot → t.tile j = s.tile j ∧ t.drift.get j = s.drift.get j) ∧
      Touches [.d, .engine, .tiles, .query, .drift, .causes] s t ∧ raisesOnly [.senseStale, .tileLost] s t ∧ begins s t ∧
      ((s.drift.get q.slot).miss < 2 → t.tile q.slot = s.tile q.slot) ∧
      ((s.drift.get q.slot).miss = 2 → t.tile q.slot = ⟨.absent, none, some (.instant s.clock)⟩ ∧
        (t.causes.get Cause.tileLost.number).pending = true))

/-- R62, R63, R64, R68: when a probe becomes due on a free channel, with D ALIGNED and nothing being sent, the probe of
the lowest slot whose probe is due begins at once with the next tag (log 15, log 16: the model's readings). While D is
DOWN or a query is outstanding none is chosen. -/
def Obligations.DueProbeIsSentLowestSlotFirst : Prop :=
  ∀ (j k : SlotId) (s : State), probeIsDue s j = true → probeIsDue s k = true → (∀ i, i < k → probeIsDue s i = false) →
    s.d.tx = none → s.restart = none →
    (s.d.aligned = true → s.query.outstanding = none →
      exec (.probeDue j) s = .next ((s.withQuery { s.query with
          outstanding := some ⟨.probe, k, s.query.tagCounter + 1, .sending⟩
          tagCounter := s.query.tagCounter + 1 }).withD
        { s.d with tx := some ⟨0x42, s.query.tagCounter + 1, [BitVec.ofNat 8 k.val]⟩ })) ∧
    (s.d.aligned = false ∨ s.query.outstanding.isSome = true → s.engine.scan = none →
      (∀ q, s.query.outstanding = some q → q.phase ≠ .waiting) → exec (.probeDue j) s = .next s)

/-! ## Requests: reads -/

/-- R23, R125, R181: READ-SETTING, READ-PLAN and READ-BAND answer with what is stored, or BAD-INDEX for
a number out of range, and change nothing but the good-cell count and the queue that takes the reply. -/
def Obligations.TableReadsAnswerStoredValues : Prop :=
  ∀ (p : Up) (tag : W16) (n slot band : Byte) (s : State), s.serves p →
    (∀ h : n.toNat < 17, exec (.readSetting p tag n) s = .next ((s.heard p).replied p tag 0x01 .ok
      (n :: beBytes 4 (BitVec.ofInt 32 (s.settings.get ⟨n.toNat, h⟩)).toNat))) ∧
    (16 < n.toNat → exec (.readSetting p tag n) s = .next ((s.heard p).replied p tag 0x01 .badIndex [])) ∧
    (∀ h : slot.toNat < 16, exec (.readPlan p tag slot) s = .next ((s.heard p).replied p tag 0x03 .ok
      (slot :: (s.plans.get ⟨slot.toNat, h⟩).bytes))) ∧
    (15 < slot.toNat → exec (.readPlan p tag slot) s = .next ((s.heard p).replied p tag 0x03 .badIndex [])) ∧
    (∀ (h : slot.toNat < 16) (g : band.toNat < 4), exec (.readBand p tag slot band) s =
      .next ((s.heard p).replied p tag 0x06 .ok
        (slot :: band :: ((s.bands.get ⟨slot.toNat, h⟩).get ⟨band.toNat, g⟩).bytes))) ∧
    (15 < slot.toNat ∨ 3 < band.toNat →
      exec (.readBand p tag slot band) s = .next ((s.heard p).replied p tag 0x06 .badIndex []))

/-- R95, R96: LIB-READ refuses a count of 0 or above 64, then an identity not held, then a first word beyond the record, and
else answers the words from the first word on. LIB-LIST refuses a first index above 47, then a count of 0 or above 48,
and else answers how many records are held and the identities from the first index on. -/
def Obligations.LibraryReadsAnswerRecords : Prop :=
  ∀ (p : Up) (tag : W16) (id : W64) (first : W16) (from_ count : Byte) (s : State), s.serves p →
    (count.toNat = 0 ∨ 64 < count.toNat →
      exec (.libRead p tag id first count) s = .next ((s.heard p).replied p tag 0x0D .badValue [])) ∧
    (1 ≤ count.toNat → count.toNat ≤ 64 → findRecord s.records id = none →
      exec (.libRead p tag id first count) s = .next ((s.heard p).replied p tag 0x0D .noRecord [])) ∧
    (∀ r, 1 ≤ count.toNat → count.toNat ≤ 64 → findRecord s.records id = some r → r.length ≤ first.toNat →
      exec (.libRead p tag id first count) s = .next ((s.heard p).replied p tag 0x0D .badIndex [])) ∧
    (∀ r, 1 ≤ count.toNat → count.toNat ≤ 64 → findRecord s.records id = some r → first.toNat < r.length →
      exec (.libRead p tag id first count) s = .next ((s.heard p).replied p tag 0x0D .ok
        (be16 first ++ [BitVec.ofNat 8 (min count.toNat (r.length - first.toNat))] ++
          ((r.drop first.toNat).take count.toNat).flatMap be16))) ∧
    (47 < from_.toNat → exec (.libList p tag from_ count) s =
      .next ((s.heard p).replied p tag 0x0E .badIndex [])) ∧
    (from_.toNat ≤ 47 → count.toNat = 0 ∨ 48 < count.toNat →
      exec (.libList p tag from_ count) s = .next ((s.heard p).replied p tag 0x0E .badValue [])) ∧
    (from_.toNat ≤ 47 → 1 ≤ count.toNat → count.toNat ≤ 48 →
      exec (.libList p tag from_ count) s = .next ((s.heard p).replied p tag 0x0E .ok
        (BitVec.ofNat 8 s.records.length :: from_ ::
          ((s.records.drop from_.toNat).take count.toNat).flatMap fun r => beBytes 8 (recIdentity r).toNat)))

/-- R166, R184, R185, R197: READ-LEVEL, READ-SLOT, READ-PORTS and READ-CAUSES answer with the values as they stand, in the
layouts of Table 1-7, Table 1-8 and Table 1-3. -/
def Obligations.StatusReadsAnswerPresentValues : Prop :=
  ∀ (p : Up) (tag : W16) (slot : Byte) (s : State), s.serves p →
    exec (.readLevel p tag) s = .next ((s.heard p).replied p tag 0x10 .ok
      (beBytes 4 s.level.wall ++ beBytes 4 s.level.headroom ++ beBytes 4 s.level.effective ++
        [match s.level.limiting with
          | some k => BitVec.ofNat 8 k.val
          | none => 0xFF])) ∧
    (∀ h : slot.toNat < 16,
      let k : SlotId := ⟨slot.toNat, h⟩
      let d := s.drift.get k
      exec (.readSlot p tag slot) s = .next ((s.heard p).replied p tag 0x05 .ok
        ([slot, match (s.tile k).presence with
            | .empty => 0
            | .absent => 1
            | .matched => 2
            | .unknown => 3
            | .misfit => 4] ++
          (match (s.tile k).facts with
            | some f => 1 :: beBytes 8 f.serial.toNat ++ beBytes 2 f.width.toNat ++ beBytes 2 f.height.toNat ++
                [f.depth] ++ beBytes 3 f.hours.toNat
            | none => List.replicate 17 0) ++
          (match d.reading with
            | some r => [1, if r.stale then 1 else 0] ++ beBytes 2 (BitVec.ofInt 16 r.temperature).toNat ++
                beBytes 3 r.hours
            | none => List.replicate 7 0) ++
          [BitVec.ofNat 8 d.miss] ++ beBytes 4 d.target.r ++ beBytes 4 d.target.g ++ beBytes 4 d.target.b ++
          beBytes 4 d.applied.r ++ beBytes 4 d.applied.g ++ beBytes 4 d.applied.b ++
          beBytes 2 (s.counts.get k).last ++ beBytes 2 (s.counts.get k).peak))) ∧
    (15 < slot.toNat → exec (.readSlot p tag slot) s = .next ((s.heard p).replied p tag 0x05 .badIndex [])) ∧
    exec (.readCauses p tag) s = .next ((s.heard p).replied p tag 0x15 .ok (s.causes.entries.flatMap fun e =>
      [if e.pending then 1 else 0, if e.announced then 1 else 0, if e.enable then 1 else 0, BitVec.ofNat 8 e.level,
        match e.firstSlot with
          | some k => BitVec.ofNat 8 k.val
          | none => 0xFF, BitVec.ofNat 8 e.count])) ∧
    exec (.readPorts p tag) s = .next ((s.heard p).replied p tag 0x1A .ok
      ([s.ua.state.code, s.ub.state.code, if s.d.aligned then 1 else 0,
        match s.selector.active with
          | none => 0
          | some .ua => 1
          | some .ub => 2] ++ beBytes 4 (s.clock % 2 ^ 32) ++
        beBytes 2 s.ua.crcFailed ++ beBytes 2 s.ua.foreign ++ beBytes 2 s.ua.unanswered ++ beBytes 2 s.ua.complete ++
        beBytes 2 s.ub.crcFailed ++ beBytes 2 s.ub.foreign ++ beBytes 2 s.ub.unanswered ++ beBytes 2 s.ub.complete ++
        beBytes 2 s.d.crcFailed ++ beBytes 2 s.d.stray ++ beBytes 2 s.d.dropped))

/-! ## Requests: edits -/

/-- R182: WRITE-SETTING stores the value, or the nearest bound of the range with OK-CLAMPED; a choice out of range is
BAD-VALUE and a number above 16 BAD-INDEX, with nothing changed. Settings 7 to 11, 15 and 16 change nothing else at the
write. The others act at the write: 0 settles the source (R11, R12); 1 takes from UP every port whose last FRAME-OPEN is as
old (R6; one settling for both, log 8: the model's choice); 2 closes and abandons open frames as old (R5, R40); 3 and 4
let the hold limit and the repeat timer expire (R53, R46); 5 moves due times, so a choice follows (R69); 6 lets the query
time out (R65); 12 to 14 compute the targets of every UNKNOWN slot afresh (R142). -/
def Obligations.WriteSettingStoresOrClamps : Prop :=
  ∀ (p : Up) (tag : W16) (n : Byte) (value : W32) (s : State), s.serves p → s.mayEdit p →
    (16 < n.toNat → exec (.writeSetting p tag n value) s = .next ((s.heard p).replied p tag 0x02 .badIndex [])) ∧
    (n = 0 ∨ n = 15 → value.toInt ≠ 0 ∧ value.toInt ≠ 1 →
      exec (.writeSetting p tag n value) s = .next ((s.heard p).replied p tag 0x02 .badValue [])) ∧
    (∀ h : n.toNat < 17, (n = 0 ∨ n = 15 → value.toInt = 0 ∨ value.toInt = 1) →
      let k : SettingId := ⟨n.toNat, h⟩
      let v : Int := max (settingRow k).lo (min (settingRow k).hi value.toInt)
      let outcome : ReqOutcome := if v = value.toInt then .ok else .okClamped
      let data : List Byte := n :: beBytes 4 (BitVec.ofInt 32 v).toNat
      let u := (s.heard p).withSettings (s.settings.set k v)
      let answer (x : State) : State := x.replied p tag 0x02 outcome data
      let past (since : Nat) : Bool := decide (v ≤ (s.clock - since : Int))
      ∃ t, exec (.writeSetting p tag n value) s = .next t ∧ t.settings = s.settings.set k v ∧
        (t.up p).queue = (s.up p).queue ++ [⟨0x30, tag, 0x02 :: outcome.code :: data⟩] ∧
        Touches [.up .ua, .up .ub, .d, .selector, .shown, .incoming, .receiver, .engine, .tiles, .query, .drift, .level,
          .settings, .causes] s t ∧ t.level.wall = s.level.wall ∧
        (n.toNat ∈ [7, 8, 9, 10, 11, 15, 16] →
          t = ((s.heard p).withSettings (s.settings.set k v)).replied p tag 0x02 outcome data) ∧
        (n.toNat = 0 →
          let wanted : Up := if v = 1 then .ub else .ua
          (∀ a, s.selector.active = some a → (s.up a).state = .up →
            (wanted = a ∨ (s.up wanted).state ≠ .up → t = answer (u.withSelector ⟨some a, none⟩)) ∧
            (wanted ≠ a → (s.up wanted).state = .up →
              (s.receiving = false → t = answer (raise .sourceSwitch none (u.withSelector ⟨some wanted, none⟩))) ∧
              (s.receiving = true → t = answer (u.withSelector ⟨some a, some wanted⟩)))) ∧
          (s.selector.active = none → (∀ q, (s.up q).state ≠ .up) → t = answer (u.withSelector ⟨none, none⟩))) ∧
        (n.toNat = 1 → (∀ q, (s.up q).state = .up → (s.up q).lastOpen.isSome = true) →
          let stale (q : Up) : Bool := decide ((s.up q).state = .up) && match (s.up q).lastOpen with
            | some a => past a
            | none => false
          ((∀ q, stale q = false) → t = answer u) ∧
          (∀ q, stale q = true → (t.up q).state = .aligned ∧ (t.up q).completeRun = 0) ∧
          (∀ q, stale q = false → (t.up q).state = (s.up q).state ∧ (t.up q).completeRun = (s.up q).completeRun) ∧
          (∀ q, (t.up q).openFrame = (s.up q).openFrame ∧ (t.up q).lastOpen = (s.up q).lastOpen) ∧
          (∀ a, s.selector.active = some a → stale a = true →
            t.selector = ⟨if (s.up (otherPort a)).state = .up ∧ stale (otherPort a) = false then some (otherPort a)
              else none, none⟩ ∧ t.receiver = ⟨.idle, s.receiver.ready⟩ ∧
            (t.causes.get Cause.sourceSwitch.number).pending = true) ∧
          (∀ a, s.selector.active = some a → (s.up a).state = .up → stale a = false → stale (otherPort a) = true →
            t.selector = ⟨some a, none⟩ ∧ t.receiver = s.receiver ∧ t.causes = s.causes)) ∧
        (n.toNat = 2 →
          let late (q : Up) : Bool := match (s.up q).openFrame with
            | some f => past f.openedAt
            | none => false
          let overdue : Bool := match s.receiver.phase with
            | .receiving _ a => past a
            | .idle => false
          ((∀ q, late q = false) → overdue = false → t = answer u) ∧
          (∀ q, late q = true → (t.up q).openFrame = none ∧ (t.up q).completeRun = 0) ∧
          (∀ q, late q = false → overdue = false ∨ s.selector.active ≠ some q →
            (t.up q).openFrame = (s.up q).openFrame ∧ (t.up q).completeRun = (s.up q).completeRun) ∧
          (∀ q, (t.up q).state = (s.up q).state) ∧
          (overdue = false → t.receiver = s.receiver ∧ t.selector = s.selector ∧ t.incoming = s.incoming ∧
            t.causes = s.causes) ∧
          (overdue = true → t.receiver = ⟨.idle, s.receiver.ready⟩ ∧ (∀ j, t.incoming.get j = []) ∧
            (t.causes.get Cause.frameLate.number).pending = true ∧
            (∀ q, s.selector.active = some q → (t.up q).openFrame = none) ∧
            (s.selector.toSwitch = none → t.selector = s.selector) ∧
            ∀ q, s.selector.toSwitch = some q → t.selector = ⟨some q, none⟩ ∧
              (t.causes.get Cause.sourceSwitch.number).pending = true)) ∧
        (n.toNat = 3 → t = answer (if s.engine.display = .live ∧ past s.engine.holdStart = true then
          raise .sourceLost none (u.withEngine { s.engine with display := .blanked }) else u)) ∧
        (n.toNat = 4 →
          (∀ a, s.engine.repeatStart = some a → s.engine.scan = none → past a = true →
            t.engine.scan.isSome = true ∧ t.engine = { s.engine with
              scan := t.engine.scan
              number := s.engine.number + 1
              repeatStart := none
              display := t.engine.display
              holdStart := t.engine.holdStart } ∧
            (s.receiver.ready = false → t.engine.display = s.engine.display ∧ t.engine.holdStart = s.engine.holdStart)) ∧
          ((∀ a, s.engine.repeatStart = some a → s.engine.scan.isSome = true ∨ past a = false) → t = answer u)) ∧
        (n.toNat = 5 →
          ((∀ q, s.query.outstanding = some q → q.phase ≠ .waiting) →
            choosesNext s.engine.scan.isNone (if s.d.tx = none then .sending else .waiting) u t.query) ∧
          (s.d.aligned = false ∨ s.query.outstanding.isSome = true → s.d.tx.isSome = true → t = answer u)) ∧
        (n.toNat = 6 →
          (∀ q a, s.query.outstanding = some q → q.phase = .sent a → past a = true → t.query.outstanding ≠ some q ∧
            (q.kind = .probe → t.drift = s.drift ∧ t.causes = s.causes ∧
              t.tiles = s.tiles.set q.slot { s.tile q.slot with due := some (.afterProbe a) }) ∧
            (q.kind = .sense → (t.drift.get q.slot).miss = min 3 ((s.drift.get q.slot).miss + 1) ∧
              (t.causes.get Cause.senseStale.number).pending = true ∧
              ((s.drift.get q.slot).miss < 2 → t.tiles = s.tiles) ∧
              ((s.drift.get q.slot).miss = 2 →
                t.tiles = s.tiles.set q.slot ⟨.absent, none, some (.instant s.clock)⟩ ∧
                (t.causes.get Cause.tileLost.number).pending = true))) ∧
          ((∀ q, s.query.outstanding = some q → ∀ a, q.phase = .sent a → past a = false) → t = answer u)) ∧
        (n.toNat ∈ [12, 13, 14] → t = answer ((u.withDrift t.drift).withCauses t.causes) ∧ raisesOnly [.driftRange] s t ∧
          ∀ j, ((s.tile j).presence = .unknown → retargeted j (s.drift.get j) t) ∧
            ((s.tile j).presence ≠ .unknown → t.drift.get j = s.drift.get j)))

/-- R22, R25, R26: the checks of WRITE-PLAN in their order; a refused write changes nothing but the good-cell count and the
queue that takes the reply. Check 2 passes exactly the entries whose source kind and used fields lie in their ranges, and
such an entry is stored with its unused fields zero. -/
def Obligations.WritePlanChecksInOrder : Prop :=
  ∀ (p : Up) (tag : W16) (slot : Byte) (e : RawPlan) (s : State), s.serves p → s.mayEdit p →
    (15 < slot.toNat → exec (.writePlan p tag slot e) s = .next ((s.heard p).replied p tag 0x04 .badIndex [])) ∧
    ∀ h : slot.toNat < 16,
      let k : SlotId := ⟨slot.toNat, h⟩
      (¬ entryInRange e → exec (.writePlan p tag slot e) s = .next ((s.heard p).replied p tag 0x04 .badValue [])) ∧
      (decodePlan e = none ↔ ¬ entryInRange e) ∧ (∀ new, decodePlan e = some new → new.raw = entryAsStored e) ∧
      (∀ c, decodePlan e = some (.canvas c) →
        (4096 < c.line + c.height ∨ 4096 < c.column + c.width →
          exec (.writePlan p tag slot e) s = .next ((s.heard p).replied p tag 0x04 .badValue [])) ∧
        (c.line + c.height ≤ 4096 → c.column + c.width ≤ 4096 →
          ((∃ j a, j ≠ k ∧ s.plans.get j = .canvas a ∧ ∃ l m, (a.native l m).isSome = true ∧ (c.native l m).isSome = true) →
            exec (.writePlan p tag slot e) s = .next ((s.heard p).replied p tag 0x04 .overlap [])) ∧
          (planLaw s → (∀ j a, j ≠ k → s.plans.get j = .canvas a →
              ∀ l m, (a.native l m).isSome = true → (c.native l m).isSome = false) →
            262144 < totalArea (s.plans.set k (.canvas c)) →
            exec (.writePlan p tag slot e) s = .next ((s.heard p).replied p tag 0x04 .full [])))) ∧
      (∀ dark target, decodePlan e = some (.mirror dark target) →
        target = k ∨ (s.plans.get target).isCanvas = false →
        exec (.writePlan p tag slot e) s = .next ((s.heard p).replied p tag 0x04 .badValue []))

/-- R28, R29, R30: an accepted WRITE-PLAN stores the entry and answers it as stored. A write of the present entry has no
further effect. A change of geometry leaves the slot's images black, or none; any other write leaves them. A slot written
NONE becomes EMPTY; an EMPTY slot written otherwise becomes ABSENT with its probe due; an identified slot written
otherwise is judged again by the tests of identification (R30, R77): a move raises the cause of the state entered and,
into MATCHED or UNKNOWN, computes its targets afresh (R141). A query for a slot written NONE is withdrawn and the slot
leaves the sense list (R67, R148); the next query is chosen (R63). Other slots' plans, images, presence and drift records
stay. -/
def Obligations.AcceptedPlanTakesEffect : Prop :=
  ∀ (p : Up) (tag : W16) (slot : Byte) (e : RawPlan) (new : Plan) (h : slot.toNat < 16) (s : State), s.serves p →
    s.mayEdit p → decodePlan e = some new → planRefusal s.plans ⟨slot.toNat, h⟩ new = none →
    let k : SlotId := ⟨slot.toNat, h⟩
    ∃ t, exec (.writePlan p tag slot e) s = .next t ∧ t.plans = s.plans.set k new ∧
      t.up p = { (s.heard p).up p with
        queue := (s.up p).queue ++ [⟨0x30, tag, 0x04 :: 0x00 :: slot :: new.bytes⟩] } ∧
      (s.plans.get k = new → t = (s.heard p).replied p tag 0x04 .ok (slot :: new.bytes)) ∧
      (geometryChanged (s.plans.get k) new = true → t.shown.get k = [] ∧ t.incoming.get k = []) ∧
      (geometryChanged (s.plans.get k) new = false → t.shown = s.shown ∧ t.incoming = s.incoming) ∧
      (s.plans.get k ≠ new → new = .none → (t.tile k).presence = .empty ∧ ((s.tile k).presence ≠ .empty →
        t.tile k = ⟨.empty, none, none⟩)) ∧
      (s.plans.get k ≠ new → new ≠ .none → (s.tile k).presence = .empty →
        t.tile k = ⟨.absent, none, some (.instant s.clock)⟩) ∧
      (new ≠ .none → (s.tile k).presence = .absent → t.tile k = s.tile k) ∧
      (s.plans.get k ≠ new → new ≠ .none → choosesAfter s s.query t) ∧
      (s.plans.get k ≠ new → new = .none → (s.tile k).presence ≠ .empty → choosesAfter s { s.query with
        outstanding := s.query.outstanding.filter fun q => decide (q.slot ≠ k)
        senseList := s.query.senseList.filter fun j => decide (j ≠ k) } t) ∧
      (∀ f, s.plans.get k ≠ new → new ≠ .none → (s.tile k).presence.identified = true → (s.tile k).facts = some f →
        let entered := testedAs new s.records f
        t.tile k = { s.tile k with presence := entered } ∧
        (entered = (s.tile k).presence → t.drift.get k = s.drift.get k) ∧
        (entered ≠ (s.tile k).presence →
          (entered = .misfit → (t.causes.get Cause.misfit.number).pending = true ∧ t.drift.get k = s.drift.get k) ∧
          (entered = .unknown → (t.causes.get Cause.unknownTile.number).pending = true) ∧
          (entered ≠ .misfit → retargeted k (s.drift.get k) t))) ∧
      (∀ j, j ≠ k → t.tile j = s.tile j ∧ t.shown.get j = s.shown.get j ∧ t.incoming.get j = s.incoming.get j ∧
        t.drift.get j = s.drift.get j) ∧
      ((s.plans.get k).isCanvas = true → new.isCanvas = false →
        (∃ j dark, (s.plans.get j) = .mirror dark k ∧ j ≠ k) → (t.causes.get Cause.misfit.number).pending = true) ∧
      Touches [.up p, .d, .plans, .shown, .incoming, .engine, .tiles, .query, .drift, .causes] s t ∧
      raisesOnly [.misfit, .unknownTile, .driftRange] s t ∧ begins s t

/-- R126, R127: WRITE-BAND. Slot, band, enabled field and lines are checked in order; the gains are clamped to 2048 to
6144 each on its own, every other field stored as given, and the reply carries the entry as stored. -/
def Obligations.WriteBandChecksAndClamps : Prop :=
  ∀ (p : Up) (tag : W16) (slot band : Byte) (e : RawBand) (s : State), s.serves p → s.mayEdit p →
    (15 < slot.toNat ∨ 3 < band.toNat →
      exec (.writeBand p tag slot band e) s = .next ((s.heard p).replied p tag 0x07 .badIndex [])) ∧
    ∀ (h : slot.toNat < 16) (g : band.toNat < 4),
      (1 < e.enabled.toNat ∨ e.y1.toNat < e.y0.toNat →
        exec (.writeBand p tag slot band e) s = .next ((s.heard p).replied p tag 0x07 .badValue [])) ∧
      (e.enabled.toNat ≤ 1 → e.y0.toNat ≤ e.y1.toNat →
        let clamp (x : W16) : W16 := if x.toNat < 2048 then 2048 else if 6144 < x.toNat then 6144 else x
        let b : Band := ⟨e.enabled == 1, e.y0, e.y1, e.startEdge, e.endEdge, e.startSlope, e.endSlope,
          clamp e.startGain, clamp e.endGain⟩
        let outcome : ReqOutcome :=
          if clamp e.startGain = e.startGain ∧ clamp e.endGain = e.endGain then .ok else .okClamped
        exec (.writeBand p tag slot band e) s = .next (((s.heard p).withBands (s.bands.set ⟨slot.toNat, h⟩
          ((s.bands.get ⟨slot.toNat, h⟩).set ⟨band.toNat, g⟩ b))).replied p tag 0x07 outcome
            (slot :: band :: b.bytes)))

/-- R85, R86, R91: LIB-OPEN, LIB-PUT and LIB-ABORT, every case, change the open load alone. -/
def Obligations.LoadProtocolCases : Prop :=
  ∀ (p : Up) (tag : W16) (id : W64) (pointer : W16) (words : List W16) (s : State), s.serves p → s.mayEdit p →
    1 ≤ words.length → words.length ≤ 64 →
    (s.load.isSome = true → exec (.libOpen p tag id) s = .next ((s.heard p).replied p tag 0x08 .busy [])) ∧
    (s.load = none → id = 0 → exec (.libOpen p tag id) s = .next ((s.heard p).replied p tag 0x08 .badValue [])) ∧
    (s.load = none → id ≠ 0 → exec (.libOpen p tag id) s =
      .next (((s.heard p).withLoad (some ⟨p, id, [], s.clock⟩)).replied p tag 0x08 .ok (beBytes 8 id.toNat))) ∧
    (s.load = none → exec (.libPut p tag pointer words) s =
      .next ((s.heard p).replied p tag 0x09 .sequence [0xFF, 0xFF])) ∧
    (s.load = none → exec (.libAbort p tag) s = .next ((s.heard p).replied p tag 0x0B .ok [])) ∧
    (∀ l, s.load = some l → l.owner ≠ p →
      exec (.libPut p tag pointer words) s = .next ((s.heard p).replied p tag 0x09 .busy []) ∧
      exec (.libAbort p tag) s = .next ((s.heard p).replied p tag 0x0B .busy [])) ∧
    (∀ l, s.load = some l → l.owner = p →
      exec (.libAbort p tag) s = .next (((s.heard p).withLoad none).replied p tag 0x0B .ok []) ∧
      (pointer.toNat ≠ l.words.length → exec (.libPut p tag pointer words) s =
        .next ((s.heard p).replied p tag 0x09 .sequence (beBytes 2 l.words.length))) ∧
      (pointer.toNat = l.words.length → 223 < l.words.length + words.length →
        exec (.libPut p tag pointer words) s = .next ((s.heard p).replied p tag 0x09 .badValue [])) ∧
      (pointer.toNat = l.words.length → l.words.length + words.length ≤ 223 →
        exec (.libPut p tag pointer words) s = .next (((s.heard p).withLoad
          (some { l with words := l.words ++ words })).replied p tag 0x09 .ok
            (beBytes 2 (l.words.length + words.length)))))

/-- R87 to R90: LIB-CLOSE. Without a load, or with the other port's, or with words missing it changes nothing; a load that
fails a check is abandoned and leaves the library, the first word that fails the table of R88 being answered; a load that
passes all is closed and its record put in the library, at the index the reply carries: in place of the one of its
identity, or at the end. -/
def Obligations.LibCloseChecksAndInstalls : Prop :=
  ∀ (p : Up) (tag : W16) (s : State), s.serves p → s.mayEdit p →
    (s.load = none → exec (.libClose p tag) s =
      .next ((s.heard p).replied p tag 0x0A .sequence [0xFF, 0xFF])) ∧
    (∀ l, s.load = some l → l.owner ≠ p →
      exec (.libClose p tag) s = .next ((s.heard p).replied p tag 0x0A .busy [])) ∧
    (∀ l, s.load = some l → l.owner = p →
      let n := (l.words.getD 30 0).toNat
      let len := l.words.length
      let abandoned (data : List Byte) := (((s.heard p).withLoad none).replied p tag 0x0A .badValue data)
      (len < 31 ∨ n ≤ 64 ∧ len < 31 + 3 * n → exec (.libClose p tag) s =
        .next ((s.heard p).replied p tag 0x0A .incomplete (beBytes 2 len))) ∧
      (31 ≤ len → 64 < n → exec (.libClose p tag) s = .next (abandoned [0, 30])) ∧
      (31 ≤ len → n ≤ 64 → 31 + 3 * n < len →
        exec (.libClose p tag) s = .next (abandoned (beBytes 2 (31 + 3 * n)))) ∧
      (n ≤ 64 → len = 31 + 3 * n →
        (∀ i, i < len → ¬ recordWordPasses l.identity l.words i → (∀ j, j < i → recordWordPasses l.identity l.words j) →
          exec (.libClose p tag) s = .next (abandoned (beBytes 2 i))) ∧
        (firstBadWord l.identity l.words = none ↔ ∀ i, i < len → recordWordPasses l.identity l.words i) ∧
        ((∀ i, i < len → recordWordPasses l.identity l.words i) →
          let held := s.records.find? fun r => recIdentity r == l.identity
          let free := 1024 - (s.records.map recDefects).sum
          let room := free + (match held with
            | some r => recDefects r
            | none => 0)
          (held = none ∧ 48 ≤ s.records.length ∨ room < n → exec (.libClose p tag) s =
            .next (((s.heard p).withLoad none).replied p tag 0x0A .full [])) ∧
          ((held.isSome = true ∨ s.records.length < 48) → n ≤ room →
            ∃ t, exec (.libClose p tag) s = .next t ∧ t.load = none ∧
              (∀ r, held = some r →
                t.records = s.records.set (s.records.findIdx fun r => recIdentity r == l.identity) l.words) ∧
              (held = none → t.records = s.records ++ [l.words]) ∧
              (t.up p).queue = (s.up p).queue ++ [⟨0x30, tag, [0x0A, 0x00,
                BitVec.ofNat 8 (s.records.findIdx fun r => recIdentity r == l.identity)]⟩] ∧
              t = ((((((s.heard p).withLoad none).withRecords t.records).withTiles t.tiles).withDrift t.drift).withCauses
                t.causes).withUp p (t.up p)))))

/-- R76, R82, R94, R141: LIB-DELETE of a held identity removes its record and closes the indices up; of another it is
NO-RECORD. Every MATCHED slot of the deleted identity becomes UNKNOWN with UNKNOWN-TILE. A LIB-CLOSE that installs or
replaces a record makes MATCHED every UNKNOWN slot of its identity and size; of its MATCHED slots those of its size stay and
the others become UNKNOWN with UNKNOWN-TILE. Each such slot's targets are computed afresh; every other slot keeps state and
drift record. -/
def Obligations.LibraryChangesReachSlots : Prop :=
  (∀ (p : Up) (tag : W16) (id : W64) (s : State), s.serves p → s.mayEdit p →
    ((∀ r ∈ s.records, recIdentity r ≠ id) →
      exec (.libDelete p tag id) s = .next ((s.heard p).replied p tag 0x0C .noRecord [])) ∧
    ((∃ r ∈ s.records, recIdentity r = id) → (s.records.map recIdentity).Nodup →
      ∃ t, exec (.libDelete p tag id) s = .next t ∧
        t.records = s.records.filter (fun r => decide (recIdentity r ≠ id)) ∧
        t.up p = { (s.heard p).up p with
          queue := (s.up p).queue ++ [⟨0x30, tag, 0x0C :: 0x00 :: beBytes 8 id.toNat⟩] } ∧
        Touches [.up p, .tiles, .records, .drift, .causes] s t ∧ raisesOnly [.unknownTile, .driftRange] s t ∧
        (∀ k f, (s.tile k).presence = .matched → (s.tile k).facts = some f → f.serial = id →
          t.tile k = { s.tile k with presence := .unknown } ∧
          (t.causes.get Cause.unknownTile.number).pending = true ∧ retargeted k (s.drift.get k) t) ∧
        (∀ k, (s.tile k).presence ≠ .matched ∨ (∀ f, (s.tile k).facts = some f → f.serial ≠ id) →
          t.tile k = s.tile k ∧ t.drift.get k = s.drift.get k))) ∧
  ∀ (p : Up) (tag : W16) (l : Load) (s : State), s.serves p → s.mayEdit p → s.load = some l → l.owner = p →
    let n := (l.words.getD 30 0).toNat
    let held := s.records.find? fun r => recIdentity r == l.identity
    let room := 1024 - (s.records.map recDefects).sum + (match held with
      | some r => recDefects r
      | none => 0)
    n ≤ 64 → l.words.length = 31 + 3 * n → firstBadWord l.identity l.words = none →
    held.isSome = true ∨ s.records.length < 48 → n ≤ room →
    ∃ t, exec (.libClose p tag) s = .next t ∧ Touches [.up p, .records, .load, .tiles, .drift, .causes] s t ∧
      raisesOnly [.unknownTile, .driftRange] s t ∧
      (∀ k f, (s.tile k).facts = some f → f.serial = l.identity →
        let fits : Prop := recWidth l.words = f.width.toNat ∧ recHeight l.words = f.height.toNat
        ((s.tile k).presence = .unknown → fits →
          t.tile k = { s.tile k with presence := .matched } ∧ retargeted k (s.drift.get k) t) ∧
        ((s.tile k).presence = .unknown → ¬ fits → t.tile k = s.tile k ∧ t.drift.get k = s.drift.get k) ∧
        ((s.tile k).presence = .matched → fits → t.tile k = s.tile k ∧ retargeted k (s.drift.get k) t) ∧
        ((s.tile k).presence = .matched → ¬ fits → t.tile k = { s.tile k with presence := .unknown } ∧
          (t.causes.get Cause.unknownTile.number).pending = true ∧ retargeted k (s.drift.get k) t)) ∧
      (∀ k, (s.tile k).presence ≠ .matched → (s.tile k).presence ≠ .unknown →
        t.tile k = s.tile k ∧ t.drift.get k = s.drift.get k) ∧
      ∀ k, (∀ f, (s.tile k).facts = some f → f.serial ≠ l.identity) →
        t.tile k = s.tile k ∧ t.drift.get k = s.drift.get k

/-- R163, R195, R196, R56: SET-LEVEL stores the level, or 65,536 with OK-CLAMPED. CLEAR-CAUSES clears the named causes,
keeping enable and level, and with PIXEL-LIMIT named sets every peak to 0. WRITE-CAUSE-CONTROL checks the number, then
the enable, and stores a level above 3 as 3 with OK-CLAMPED. Nothing else changes. -/
def Obligations.LevelAndCauseEdits : Prop :=
  ∀ (p : Up) (tag : W16) (v : W32) (set : W16) (cause enable level : Byte) (s : State), s.serves p → s.mayEdit p →
    (v.toNat ≤ 65536 → exec (.setLevel p tag v) s = .next (((s.heard p).withLevel
      { s.level with wall := v.toNat }).replied p tag 0x0F .ok (beBytes 4 v.toNat))) ∧
    (65536 < v.toNat → exec (.setLevel p tag v) s = .next (((s.heard p).withLevel
      { s.level with wall := 65536 }).replied p tag 0x0F .okClamped [0, 1, 0, 0])) ∧
    (let cleared : Table CauseEntry 16 := Table.tabulate fun c =>
        if set.getLsbD c.val then
          { s.causes.get c with pending := false, announced := false, firstSlot := none, count := 0 }
        else s.causes.get c
     let counts : Table LimitCounts 16 := Table.tabulate fun k =>
        ⟨(s.counts.get k).last, if set.getLsbD 10 then 0 else (s.counts.get k).peak⟩
     exec (.clearCauses p tag set) s = .next ((((s.heard p).withCauses cleared).withCounts counts).replied p tag 0x16 .ok
        (beBytes 2 set.toNat))) ∧
    (15 < cause.toNat →
      exec (.writeCauseControl p tag cause enable level) s = .next ((s.heard p).replied p tag 0x17 .badIndex [])) ∧
    (∀ h : cause.toNat < 16,
      (1 < enable.toNat →
        exec (.writeCauseControl p tag cause enable level) s = .next ((s.heard p).replied p tag 0x17 .badValue [])) ∧
      (enable.toNat ≤ 1 →
        exec (.writeCauseControl p tag cause enable level) s =
          .next (((s.heard p).withCauses (s.causes.set ⟨cause.toNat, h⟩
            { s.causes.get ⟨cause.toNat, h⟩ with enable := enable == 1, level := min 3 level.toNat })).replied p tag 0x17
              (if level.toNat ≤ 3 then .ok else .okClamped) [cause, enable, BitVec.ofNat 8 (min 3 level.toNat)])))

/-- R175 to R177, R179, R180: the flag requests. On the edit flag: set only while clear, its port becoming the holder;
cleared only by the holder, another port being NOT-OWNER. On flags 1 to 15: test and change with no ownership. Each
reply carries flag, value before and holder after; a number above 15 is BAD-INDEX. -/
def Obligations.FlagRequestsTestAndChange : Prop :=
  ∀ (p : Up) (tag : W16) (flag : Byte) (s : State), s.serves p →
    let holder : Byte := match s.holder with
      | none => 0
      | some .ua => 1
      | some .ub => 2
    let me : Byte := match p with
      | .ua => 1
      | .ub => 2
    (15 < flag.toNat →
      exec (.flagTest p tag flag) s = .next ((s.heard p).replied p tag 0x11 .badIndex []) ∧
      exec (.flagSet p tag flag) s = .next ((s.heard p).replied p tag 0x12 .badIndex []) ∧
      exec (.flagClear p tag flag) s = .next ((s.heard p).replied p tag 0x13 .badIndex []) ∧
      exec (.flagChange p tag flag) s = .next ((s.heard p).replied p tag 0x14 .badIndex [])) ∧
    exec (.flagTest p tag 0) s =
      .next ((s.heard p).replied p tag 0x11 .ok [0, if s.flags.get 0 then 1 else 0, holder]) ∧
    (s.flags.get 0 = false →
      exec (.flagSet p tag 0) s = .next ((((s.heard p).withFlags (s.flags.set 0 true)).withHolder (some p)).replied p tag
        0x12 .ok [0, 0, me]) ∧
      exec (.flagChange p tag 0) s = .next ((((s.heard p).withFlags (s.flags.set 0 true)).withHolder (some p)).replied p
        tag 0x14 .ok [0, 0, me]) ∧
      exec (.flagClear p tag 0) s = .next ((s.heard p).replied p tag 0x13 .ok [0, 0, 0])) ∧
    (s.flags.get 0 = true →
      exec (.flagSet p tag 0) s = .next ((s.heard p).replied p tag 0x12 .ok [0, 1, holder]) ∧
      (s.holder = some p →
        exec (.flagClear p tag 0) s = .next ((((s.heard p).withFlags (s.flags.set 0 false)).withHolder none).replied p tag
          0x13 .ok [0, 1, 0]) ∧
        exec (.flagChange p tag 0) s = .next ((((s.heard p).withFlags (s.flags.set 0 false)).withHolder none).replied p
          tag 0x14 .ok [0, 1, 0])) ∧
      (s.holder ≠ some p →
        exec (.flagClear p tag 0) s = .next ((s.heard p).replied p tag 0x13 .notOwner []) ∧
        exec (.flagChange p tag 0) s = .next ((s.heard p).replied p tag 0x14 .notOwner []))) ∧
    (∀ h : flag.toNat < 16, 1 ≤ flag.toNat →
      let k : Fin 16 := ⟨flag.toNat, h⟩
      let before : Byte := if s.flags.get k then 1 else 0
      exec (.flagTest p tag flag) s = .next ((s.heard p).replied p tag 0x11 .ok [flag, before, 0]) ∧
      exec (.flagSet p tag flag) s =
        .next (((s.heard p).withFlags (s.flags.set k true)).replied p tag 0x12 .ok [flag, before, 0]) ∧
      exec (.flagClear p tag flag) s =
        .next (((s.heard p).withFlags (s.flags.set k false)).replied p tag 0x13 .ok [flag, before, 0]) ∧
      exec (.flagChange p tag flag) s =
        .next (((s.heard p).withFlags (s.flags.set k (!s.flags.get k))).replied p tag 0x14 .ok [flag, before, 0]))

/-- R75, R147, R148: PROBE-SLOTS makes each named identified slot ABSENT, each named ABSENT slot without a probe
outstanding due now, and leaves the others, raising no cause. SENSE-SLOT is BAD-INDEX above 15, BAD-VALUE for an EMPTY or
ABSENT slot, leaves a listed slot in its place, and otherwise adds the slot at the tail of the list; the choice it occasions
(R63, R64, R146, R148) takes a due probe, else, with no scan in flight, the head of the list; its cell begins at once when
nothing is being sent (log 16). -/
def Obligations.ProbeSlotsAndSenseSlot : Prop :=
  ∀ (p : Up) (tag : W16) (set : W16) (slot : Byte) (s : State), s.serves p → s.mayEdit p →
    (∃ t, exec (.probeSlots p tag set) s = .next t ∧
      (∀ k, set.getLsbD k.val = false → t.tile k = s.tile k) ∧
      (∀ k, set.getLsbD k.val = true → (s.tile k).presence = .empty → t.tile k = s.tile k) ∧
      (∀ k, set.getLsbD k.val = true → (s.tile k).presence.identified = true →
        t.tile k = ⟨.absent, none, some (.instant s.clock)⟩ ∧ k ∉ t.query.senseList) ∧
      (∀ k, set.getLsbD k.val = true → (s.tile k).presence = .absent →
        t.tile k = if ∃ q, s.query.outstanding = some q ∧ q.kind = .probe ∧ q.slot = k then s.tile k
          else { s.tile k with due := some (.instant s.clock) }) ∧
      Touches [.up p, .d, .engine, .tiles, .query] s t ∧ begins s t ∧
      t.up p = { (s.heard p).up p with
        queue := (s.up p).queue ++ [⟨0x30, tag, 0x18 :: 0x00 :: beBytes 2 set.toNat⟩] }) ∧
    (15 < slot.toNat → exec (.senseSlot p tag slot) s = .next ((s.heard p).replied p tag 0x19 .badIndex [])) ∧
    ∀ h : slot.toNat < 16,
      let k : SlotId := ⟨slot.toNat, h⟩
      ((s.tile k).presence.identified = false →
        exec (.senseSlot p tag slot) s = .next ((s.heard p).replied p tag 0x19 .badValue [])) ∧
      ((s.tile k).presence.identified = true → k ∈ s.query.senseList →
        exec (.senseSlot p tag slot) s = .next ((s.heard p).replied p tag 0x19 .ok [slot])) ∧
      ((s.tile k).presence.identified = true → k ∉ s.query.senseList →
        exec (.senseSlot p tag slot) s = .next ((chooseAndBegin ((s.heard p).withQuery
          { s.query with senseList := s.query.senseList ++ [k] })).replied p tag 0x19 .ok [slot]) ∧
        ∃ t, exec (.senseSlot p tag slot) s = .next t ∧ Touches [.up p, .d, .engine, .query] s t ∧ begins s t ∧
          ((∀ q, s.query.outstanding = some q → q.phase ≠ .waiting) →
            choosesNext s.engine.scan.isNone (if s.d.tx = none then .sending else .waiting)
              (s.withQuery { s.query with senseList := s.query.senseList ++ [k] }) t.query))

/-! ## Requests: ownership, form, room, restart -/

/-- R15, R171, R172, R174, R186: while flag 0 is set and another port holds it, an edit is answered NOT-OWNER and changes nothing;
an unknown request, and a LIB-PUT whose word count is not 1 to 64, is answered BAD-REQUEST with its code, ownership not
consulted. A request that finds its port's return queue full is discarded and adds 1 to the unanswered tally; while a
restart waits, a request waits at its port, the fifth being discarded and tallied. -/
def Obligations.RequestsNotExecuted : Prop :=
  (∀ (i : Instr) (p : Up) (tag : W16) (code : Byte) (s : State), editHead i = some (p, tag, code) → s.serves p →
    s.flags.get 0 = true → s.holder ≠ some p →
    exec i s = .next ((s.heard p).replied p tag code .notOwner [])) ∧
  (∀ (p : Up) (tag : W16) (code : Byte) (operands : List Byte) (s : State), s.serves p →
    exec (.unknownRequest p tag code operands) s = .next ((s.heard p).replied p tag code .badRequest [])) ∧
  (∀ (p : Up) (tag pointer : W16) (words : List W16) (s : State), s.serves p →
    words.length = 0 ∨ 64 < words.length →
    exec (.libPut p tag pointer words) s = .next ((s.heard p).replied p tag 0x09 .badRequest [])) ∧
  ∀ (i : Instr) (p : Up) (s : State), Instr.requestPort i = some p → s.listens p →
    (s.restart = none → 32 ≤ (s.up p).queue.length → exec i s =
      .next ((s.heard p).withUp p { (s.heard p).up p with unanswered := tallied (s.up p).unanswered })) ∧
    (s.restart.isSome = true → (s.waiting.filter fun j => decide (Instr.requestPort j = some p)).length < 4 →
      exec i s = .next ((s.heard p).withWaiting (s.waiting ++ [i]))) ∧
    (s.restart.isSome = true → 4 ≤ (s.waiting.filter fun j => decide (Instr.requestPort j = some p)).length →
      exec i s =
        .next ((s.heard p).withUp p { (s.heard p).up p with unanswered := tallied (s.up p).unanswered }))

/-- R186, R187: a RESTART with no TILE-SHOW in transmission is carried out at once, whole, and its reply enters the queue
after it. With the TILE-SHOW in transmission it waits: nothing else changes and no reply is sent yet. -/
def Obligations.RestartIsCarriedOutOrWaits : Prop :=
  ∀ (p : Up) (tag : W16) (s : State), s.serves p → s.mayEdit p →
    ((∀ c, s.d.tx = some c → c.kind ≠ 0x41) → ∃ t, exec (.restart p tag) s = .next t ∧ restarted s t ∧
      t.restart = none ∧ t.waiting = s.waiting ∧
      t.up p = { (s.heard p).up p with queue := (s.up p).queue ++ [⟨0x30, tag, [0x1B, 0x00]⟩] } ∧
      t.up (otherPort p) = s.up (otherPort p)) ∧
    (∀ c, s.d.tx = some c → c.kind = 0x41 →
      exec (.restart p tag) s = .next ((s.heard p).withRestart (some ⟨p, tag, false, false, 0⟩)))

/-- R186, R187: after the scan end it waited for, the waiting RESTART is carried out and answered, or, when its port has
entered DOWN meanwhile, carried out and not answered (log 12: the model's reading). Before that scan end nothing happens
(log 3). BLANKn assertions that came after it then act, each starting a scan (log 9), and after them (log 26: the model's
choice) the requests that waited are executed, one after another in their order of arrival across the ports (log 11), no notice
being offered among them (log 30: the model's choice): the last of them acts as it would on the state that the others
leave. -/
def Obligations.WaitingRestartIsCarriedOutAtScanEnd : Prop :=
  ∀ (w : RestartWait) (s : State), s.restart = some w →
    (w.scanEnded = false → exec .restartAtScanEnd s = .next s) ∧
    (w.scanEnded = true → w.blanks = 0 → s.waiting = [] →
      ∃ t, exec .restartAtScanEnd s = .next t ∧ restarted s t ∧ t.restart = none ∧ t.waiting = [] ∧
        t.up (otherPort w.port) = s.up (otherPort w.port) ∧
        (w.replyLost = false → (s.up w.port).state ≠ .down →
          t.up w.port = { s.up w.port with queue := (s.up w.port).queue ++ [⟨0x30, w.tag, [0x1B, 0x00]⟩] }) ∧
        (w.replyLost = true ∨ (s.up w.port).state = .down → t.up w.port = s.up w.port)) ∧
    (w.scanEnded = true → 0 < w.blanks → s.waiting = [] →
      ∃ t, exec .restartAtScanEnd s = .next t ∧ t.restart = none ∧ t.waiting = [] ∧
        (∃ sc, t.engine.scan = some sc ∧ sc.binding.blank = s.engine.blank) ∧ t.engine.repeatStart = none ∧
        t.engine.number = s.engine.number + BitVec.ofNat 16 w.blanks ∧ t.engine.display = .live ∧
        t.engine.holdStart = s.clock ∧ (∀ k, t.counts.get k = ⟨0, 0⟩) ∧ t.receiver = ⟨.idle, false⟩ ∧
        (∀ k, t.shown.get k = [] ∧ t.incoming.get k = []) ∧
        (∀ k, (s.tile k).presence = .empty → t.tile k = s.tile k) ∧
        (∀ k, (s.tile k).presence ≠ .empty → t.tile k = ⟨.absent, none, some (.instant s.clock)⟩) ∧
        t.up (otherPort w.port) = s.up (otherPort w.port) ∧
        (w.replyLost = false → (s.up w.port).state ≠ .down →
          t.up w.port = { s.up w.port with queue := (s.up w.port).queue ++ [⟨0x30, w.tag, [0x1B, 0x00]⟩] }) ∧
        (w.replyLost = true ∨ (s.up w.port).state = .down → t.up w.port = s.up w.port) ∧
        Touches (.up w.port :: [.d, .selector, .shown, .incoming, .receiver, .engine, .counts, .tiles, .query, .load,
          .drift, .level, .restart, .causes]) s t) ∧
    (∀ (rest : List Instr) (i : Instr) (q : Up) (u : State), w.scanEnded = true → s.waiting = rest ++ [i] →
      Instr.requestPort i = some q → s.listens q → (s.up q).goodRun = 8 → (s.up q).failedRun = 0 →
      exec .restartAtScanEnd (s.withWaiting rest) = .next u → exec .restartAtScanEnd s = exec i u)

/-! ## Causes and notices -/

/-- R190: a raise makes a cause that is not pending pending, with count 1 and the slot given; of a pending cause it
raises the count, which stops at 255; no other entry and nothing else changes. -/
def Obligations.RaiseCountsOrMakesPending : Prop :=
  ∀ (c : Cause) (k : Option SlotId) (s : State),
    ((s.causes.get c.number).pending = false → raise c k s = s.withCauses (s.causes.set c.number
      { s.causes.get c.number with pending := true, count := 1, firstSlot := k })) ∧
    ((s.causes.get c.number).pending = true → raise c k s = s.withCauses (s.causes.set c.number
      { s.causes.get c.number with count := min 255 ((s.causes.get c.number).count + 1) }))

/-- R16, R191, R192, R193: an offer chooses, among the causes due, the highest level and then the lowest number, and
places one notice of it at the newest end of every queue of a port that is not DOWN and has room; the cause is then
announced and the millisecond used. With no cause due, no room, the millisecond used, or a RESTART that waits (R186),
nothing changes. -/
def Obligations.OfferPlacesOneNotice : Prop :=
  ∀ s : State, (s.restart.isSome = true → exec .noticeOffer s = .next s) ∧ (s.restart = none →
    let due (c : Fin 16) : Prop := (s.causes.get c).pending = true ∧ (s.causes.get c).enable = true ∧
      (s.causes.get c).announced = false ∧ s.setting 16 < (s.causes.get c).level
    let takes (p : Up) : Prop := (s.up p).state ≠ .down ∧ (s.up p).queue.length < 32
    ((s.noticePlaced = true ∨ (∀ c, ¬ due c) ∨ ¬ takes .ua ∧ ¬ takes .ub) → exec .noticeOffer s = .next s) ∧
    (s.noticePlaced = false → (takes .ua ∨ takes .ub) → (∃ c, due c) →
      ∃ c t, due c ∧ (∀ e, due e → (s.causes.get e).level < (s.causes.get c).level ∨
          (s.causes.get e).level = (s.causes.get c).level ∧ c ≤ e) ∧
        exec .noticeOffer s = .next t ∧
        (∀ p, takes p → t.up p = { s.up p with queue := (s.up p).queue ++ [⟨0x31, 0,
          [BitVec.ofNat 8 c.val, BitVec.ofNat 8 (s.causes.get c).level,
            match (s.causes.get c).firstSlot with
              | some k => BitVec.ofNat 8 k.val
              | none => 0xFF,
            BitVec.ofNat 8 (s.causes.get c).count] ++ beBytes 2 (s.clock % 65536)⟩] }) ∧
        (∀ p, ¬ takes p → t.up p = s.up p) ∧
        t = (((s.withUa t.ua).withUb t.ub).withCauses (s.causes.set c
          { s.causes.get c with announced := true })).withNoticePlaced true))

/-- R198: FAULTn is asserted exactly while some cause is pending, enabled and at level 3. -/
def Obligations.FaultLineFollowsCauses : Prop :=
  ∀ s : State, s.faultAsserted = true ↔
    ∃ c, (s.causes.get c).pending = true ∧ (s.causes.get c).enable = true ∧ (s.causes.get c).level = 3

/-! ## Arithmetic -/

/-- R102, R105, R107, R108, R112, R114: one pixel through steps 1 to 7. A channel that the matrix is not bypassed for is
the exact sum over 4096 rounded half away from zero, and 0 where that is negative; the output is the exact product with
gain and band factor over 2^(40 - D), rounded half up; and every value sent lies within 0 to 2^D - 1. -/
def Obligations.PixelPipelineIsExact : Prop :=
  ∀ (c : Calibration) (gain : Rgb Nat) (threshold depth beta : Nat) (input : Rgb Nat), depth ≤ 16 → 1 ≤ depth →
    let x : Rgb Nat := ⟨input.r - c.black.r, input.g - c.black.g, input.b - c.black.b⟩
    let sum (row : Rgb Int) : Int := row.r * x.r + row.g * x.g + row.b * x.b
    let mixed (v : Int) : Nat := if v ≤ 0 then 0 else ((v + 2048) / 4096).toNat
    let scaled (m k : Nat) : Nat := (m * k * beta + 2 ^ (39 - depth)) / 2 ^ (40 - depth)
    let out := scaledPixel c gain threshold depth beta input
    ((x.r ≤ threshold ∧ x.g ≤ threshold ∧ x.b ≤ threshold) →
      out = ⟨scaled x.r gain.r, scaled x.g gain.g, scaled x.b gain.b⟩) ∧
    (¬ (x.r ≤ threshold ∧ x.g ≤ threshold ∧ x.b ≤ threshold) →
      out = ⟨scaled (mixed (sum c.matrix.r)) gain.r, scaled (mixed (sum c.matrix.g)) gain.g,
        scaled (mixed (sum c.matrix.b)) gain.b⟩) ∧
    saturate depth out = ⟨min (2 ^ depth - 1) out.r, min (2 ^ depth - 1) out.g, min (2 ^ depth - 1) out.b⟩

/-- R129, R130, R131, R132: the band factor of a pixel is formed from the ramp factors of the enabled entries that cover
it, in ascending band index, each further product rounded half up and clamped; an entry covers the columns from its start
column to its end column, floored on that line, and its ramp runs between the unclipped columns, truncated toward zero. It
lies within 2048 to 6144 when every enabled entry's gains do, and is 4096 when no entry covers it. -/
def Obligations.BandFactorStaysInRange : Prop :=
  ∀ (bands : Table Band 4) (w x y : Nat),
    (∀ i, (bands.get i).enabled = true → 2048 ≤ (bands.get i).startGain.toNat ∧ (bands.get i).startGain.toNat ≤ 6144 ∧
      2048 ≤ (bands.get i).endGain.toNat ∧ (bands.get i).endGain.toNat ≤ 6144) →
    (2048 ≤ bandFactor (bandLines bands y) w x ∧ bandFactor (bandLines bands y) w x ≤ 6144) ∧
    ((∀ l ∈ bandLines bands y, l.covers w x = false) → bandFactor (bandLines bands y) w x = 4096) ∧
    let startColumn (b : Band) : Int := (b.startEdge.toInt + ((y : Int) - b.y0.toNat) * b.startSlope.toInt) / 65536
    let endColumn (b : Band) : Int := (b.endEdge.toInt + ((y : Int) - b.y0.toNat) * b.endSlope.toInt) / 65536
    let covers (b : Band) : Bool := b.enabled && decide (b.y0.toNat ≤ y ∧ y ≤ b.y1.toNat ∧
      max (startColumn b) 0 ≤ (x : Int) ∧ (x : Int) < min (endColumn b) w)
    let ramp (b : Band) : Nat := (b.startGain.toNat + Int.tdiv (((b.endGain.toNat : Int) - b.startGain.toNat) *
      (x - startColumn b)) (endColumn b - startColumn b)).toNat
    bandFactor (bandLines bands y) w x = match [0, 1, 2, 3].map bands.get |>.filter covers |>.map ramp with
      | [] => 4096
      | first :: others =>
          others.foldl (fun running k => max 2048 (min 6144 ((running * k + 2048) / 4096))) first

/-- R52, R117, R118, R120: steps 8 and 9. A pixel without an entry keeps its values of step 7; a DARK entry is sent as 0; a
NEIGHBOUR entry takes the values before substitution of column x - 1, or of column 1 at x = 0. Under a black override
every channel of every pixel of a line is 0 and no clamp is counted. -/
def Obligations.DefectsAndBlackOverridesDecideSentValues : Prop :=
  (∀ (defects : List Defect) (y x : Nat) (values : List (Rgb Nat)) (hx : x < values.length), 2 ≤ values.length →
    ((∀ d ∈ defects, d.line = y → d.column ≠ x) → (substitute defects y values)[x]? = some values[x]) ∧
    (∀ d ∈ defects, d.line = y → d.column = x → (∀ e ∈ defects, e.line = y → e.column = x → e = d) →
      (d.action = .dark → (substitute defects y values)[x]? = some ⟨0, 0, 0⟩) ∧
      (d.action = .neighbour →
        (substitute defects y values)[x]? = if x = 0 then values[1]? else values[x - 1]?))) ∧
  ∀ (s : State) (b : Binding) (k : SlotId) (c : SentCopy) (size : BoundSize) (y : Nat),
    (b.slots.get k).dark = true ∨ b.display = .blanked ∨ b.blank = true →
    lineOf s b k c size y = (List.replicate size.width ⟨0, 0, 0⟩, 0)

/-- R139, R140: the target drift factor of a channel is 65,536 plus 65,536 X / 100,000,000 rounded half away from zero,
clamped to 49,152 to 98,304, with X = 25 kT dT + kA dA; the temperature counts only with a reading, and hours below the
calibration hours count as 0. The coefficients are those of the bound record for a MATCHED slot and, for an UNKNOWN one,
settings 12 to 14 at 25.0 degrees without age; the hours are the reading's, or the tile facts' without one (R138). -/
def Obligations.TargetFactorFormula : Prop :=
  (∀ (c : DriftCoefficients) (reading : Option Reading) (hours : Nat),
    let dT : Int := match reading with
      | some r => r.temperature - c.reference
      | none => 0
    let dA : Int := if c.hours ≤ hours then (hours : Int) - c.hours else 0
    let q (x : Int) : Int := if 0 ≤ x then (65536 * x + 50000000) / 100000000 else -((-65536 * x + 50000000) / 100000000)
    let target (kT : Int) (kA : Nat) : Nat := (max 49152 (min 98304 (65536 + q (25 * kT * dT + kA * dA)))).toNat
    (rawTargets c reading hours).map clampTarget =
      ⟨target c.temperature.r c.age.r, target c.temperature.g c.age.g, target c.temperature.b c.age.b⟩) ∧
  ∀ (s : State) (k : SlotId),
    slotRawTargets s k = rawTargets (slotCoefficients s k) (s.drift.get k).reading
      (match (s.drift.get k).reading, (s.tile k).facts with
        | some r, _ => r.hours
        | none, some f => f.hours.toNat
        | none, none => 0) ∧
    (∀ f r, (s.tile k).presence = .matched → (s.tile k).facts = some f → findRecord s.records f.serial = some r →
      let w (i : Nat) : Nat := (r.getD i 0).toNat
      let v (i : Nat) : Int := (r.getD i 0).toInt
      slotCoefficients s k = ⟨v 21, ⟨v 22, v 23, v 24⟩, w 25 * 65536 + w 26, ⟨w 27, w 28, w 29⟩⟩) ∧
    ((s.tile k).presence = .unknown →
      slotCoefficients s k = ⟨100, ⟨s.setting 12, s.setting 13, s.setting 14⟩, 0, ⟨0, 0, 0⟩⟩)

/-! ## Encoding -/

/-- R1, R2, R20, Table 1-1: the bytes of a cell, sent after a START symbol, are delineated as one CRC-good cell with the
same kind, tag and payload, and the receiver is then outside a cell. -/
def Obligations.SentCellIsReceivedWhole : Prop :=
  ∀ c : Cell, c.payload.length ≤ 4095 →
    delineateAll none (.start :: (Cell.wire c).map LineSymbol.data) = (none, [.good c])

/-- R22, R23, Table 1-5: the entry a stored plan reads back as is decoded to that plan, for every plan whose fields lie
in their ranges. -/
def Obligations.StoredPlanReadsBackAsItself : Prop :=
  ∀ p : Plan,
    (match p with
      | .none => True
      | .canvas c => c.line ≤ 4095 ∧ c.column ≤ 4095 ∧ 16 ≤ c.width ∧ c.width ≤ 256 ∧ c.width % 8 = 0 ∧
          16 ≤ c.height ∧ c.height ≤ 256 ∧ c.height % 8 = 0
      | .mirror _ _ => True
      | .flat _ c => c.r ≤ 4095 ∧ c.g ≤ 4095 ∧ c.b ≤ 4095
      | .grid _ c pitch => c.r ≤ 4095 ∧ c.g ≤ 4095 ∧ c.b ≤ 4095 ∧ 8 ≤ pitch ∧ pitch ≤ 64) →
    decodePlan p.raw = some p ∧ planAt p.bytes 0 = p.raw ∧ p.bytes.length = 20

/-! ## Laws that every step keeps -/

/-- R22, R27, R35, R81: a step keeps these laws. Plans: every CANVAS footprint in its size range, no two sharing a canvas
pixel, their areas at most 262,144 together. Images: each in its canonical form (log 18: the model's choice of form), none
for a slot that is not CANVAS.
Library: at most 48 records, no identity twice, at most 1024 defects, each record of its length. -/
def Obligations.PlanImageAndLibraryLawsAreKept : Prop :=
  ∀ s t : State, step s = .next t → (planLaw s → planLaw t) ∧ (imageLaw s → imageLaw t) ∧ (libraryLaw s → libraryLaw t)

/-- R83, R174, R186: a step keeps these laws. Waiting requests: each waits at a port that is not DOWN (for a port that did
not send the RESTART, log 12: the model's reading). With that one, edit
flag: set exactly while it has a holder, which is not DOWN. With the first one, open load: its owner is not DOWN, its
identity not 0, its words at most 223. -/
def Obligations.OwnershipLawsAreKept : Prop :=
  ∀ s t : State, step s = .next t → waitingLaw s →
    waitingLaw t ∧ (editFlagLaw s → editFlagLaw t) ∧ (loadLaw s → loadLaw t)

/-- R138, R154, R182, R189, R190: a step keeps these laws. Causes: a count at most 255 and 0 exactly while the cause is not
pending, only a pending cause announced or with a first slot, a level at most 3. Settings: each in its range. Drift:
target and applied factors within 49,152 to 98,304, a miss count at most 3. -/
def Obligations.CauseSettingAndDriftLawsAreKept : Prop :=
  ∀ s t : State, step s = .next t → (causeLaw s → causeLaw t) ∧ (settingLaw s → settingLaw t) ∧ (driftLaw s → driftLaw t)

/-- R60, R61, R62, R67, R68, R148: a step keeps these laws. Slots: EMPTY exactly while the plan is NONE, with facts exactly
while identified, with a probe-due time exactly while ABSENT; an outstanding probe is for an ABSENT slot, an outstanding
sense for an identified one, and carries the tag taken last; the sense list names identified slots, none twice. Matches: a
MATCHED slot's tile has its record in the library. -/
def Obligations.SlotLawsAreKept : Prop :=
  ∀ s t : State, step s = .next t → (slotLaw s → slotLaw t) ∧ (tagLaw s → tagLaw t) ∧ (matchLaw s → matchLaw t)

/-- R6, R7, R11, R12, 1.3: a step from a state whose waiting requests wait at ports that are not DOWN keeps these laws.
Source: the active source is UP and is the choice, or a switch to the choice is pending while a frame is RECEIVING; a
frame is RECEIVING only with an active source and without a READY frame. Ports: an UP port has taken a FRAME-OPEN; a
DOWN port has no open frame, no FRAME-OPEN time, a complete-frame run of 0 and at most one cell queued. -/
def Obligations.SourceAndPortLawsAreKept : Prop :=
  ∀ s t : State, step s = .next t → waitingLaw s → (sourceLaw s → sourceLaw t) ∧ (portLaw s → portLaw t)

/-- R4, R10, R14, R46, R186, 1.3, 3.1: a step keeps these laws. Counts: runs and tallies of the upstream ports in their
ranges, at most 32 cells queued with room for the reply of a RESTART that waits, at most four requests waiting at a port
and none without such a RESTART. Engine: the repeat timer runs exactly while no scan is in flight, and a READY frame
waits only for a scan's end. -/
def Obligations.CountAndEngineLawsAreKept : Prop :=
  ∀ s t : State, step s = .next t → (countLaw s → countLaw t) ∧ (engineLaw s → engineLaw t)

/-- The state right after reset has every law of the six statements above (R18, R43, R57, R78, R157, R188, R199). -/
def Obligations.ResetStateIsLawful : Prop :=
  planLaw State.reset ∧ libraryLaw State.reset ∧ editFlagLaw State.reset ∧ loadLaw State.reset ∧
  waitingLaw State.reset ∧ causeLaw State.reset ∧ settingLaw State.reset ∧ driftLaw State.reset ∧
  slotLaw State.reset ∧ tagLaw State.reset ∧ matchLaw State.reset ∧ imageLaw State.reset ∧ sourceLaw State.reset ∧
  portLaw State.reset ∧ countLaw State.reset ∧ engineLaw State.reset
end

