-- ==== Sys2Proof/Laws/Images.lean ====
section
/-! SUPPORT. Images: a write is read back, leaves every other pixel, and keeps the canonical form. -/

namespace Sys2Proof.Machine

theorem Image.above_iff (key : Nat) (img : Image) : Image.above key img = true ↔ ∀ e ∈ img, key < e.1 := by
  simp [Image.above]

theorem Image.above_of_lt {a b : Nat} {img : Image} (h : a < b) (hb : Image.above b img = true) :
    Image.above a img = true := by
  rw [Image.above_iff] at hb ⊢
  exact fun e he => lt_trans h (hb e he)

/-- What a written image lists is the written pixel or was listed before. -/
theorem Image.mem_write {img : Image} {key : Nat} {p : Pixel} {e : Nat × Pixel} (h : e ∈ Image.write img key p) :
    e.1 = key ∨ e ∈ img := by
  induction img with
  | nil =>
    unfold Image.write at h
    split at h
    · exact absurd h List.not_mem_nil
    · exact Or.inl (congrArg Prod.fst (List.mem_singleton.mp h))
  | cons f rest ih =>
    obtain ⟨k, q⟩ := f
    unfold Image.write at h
    split at h
    · split at h
      · exact Or.inr h
      · rcases List.mem_cons.mp h with rfl | h
        · exact Or.inl rfl
        · exact Or.inr h
    · split at h
      · split at h
        · exact Or.inr (List.mem_cons_of_mem _ h)
        · rcases List.mem_cons.mp h with rfl | h
          · exact Or.inl rfl
          · exact Or.inr (List.mem_cons_of_mem _ h)
      · rcases List.mem_cons.mp h with rfl | h
        · exact Or.inr List.mem_cons_self
        · exact (ih h).imp_right (List.mem_cons_of_mem _)

theorem Image.above_write {a key : Nat} {img : Image} (p : Pixel) (hk : a < key) (h : Image.above a img = true) :
    Image.above a (Image.write img key p) = true := by
  rw [Image.above_iff] at h ⊢
  intro e he
  rcases Image.mem_write he with rfl | he
  · exact hk
  · exact h e he

/-- A write keeps the canonical form. -/
theorem Image.wf_write (img : Image) (key : Nat) (p : Pixel) (h : Image.wf img = true) :
    Image.wf (Image.write img key p) = true := by
  induction img with
  | nil => unfold Image.write; split <;> simp_all [Image.wf, Image.above]
  | cons e rest ih =>
    obtain ⟨k, q⟩ := e
    simp only [Image.wf, Bool.and_eq_true, decide_eq_true_eq] at h
    obtain ⟨⟨hq, ha⟩, hr⟩ := h
    unfold Image.write
    split
    · next hlt =>
      split
      · simp [Image.wf, hq, ha, hr]
      · next hp =>
        have : Image.above key ((k, q) :: rest) = true := by
          rw [Image.above_iff] at ha ⊢
          intro e he
          rcases List.mem_cons.mp he with rfl | he
          · exact hlt
          · exact lt_trans hlt (ha e he)
        simp [Image.wf, hp, hq, ha, hr, this]
    · split
      · next heq => subst heq; split <;> simp_all [Image.wf]
      · next hlt hne =>
        simp only [Image.wf, Bool.and_eq_true, decide_eq_true_eq]
        exact ⟨⟨hq, Image.above_write p (by omega) ha⟩, ih hr⟩

theorem Image.pixel_of_above {key : Nat} {img : Image} (h : Image.above key img = true) :
    Image.pixel img key = blackPixel := by
  induction img with
  | nil => rfl
  | cons e rest ih =>
    obtain ⟨k, q⟩ := e
    simp only [Image.above, List.all_cons, Bool.and_eq_true, decide_eq_true_eq] at h
    have : key ≠ k := by omega
    simp only [Image.pixel, if_neg this]
    exact ih (by simpa [Image.above] using h.2)

/-- A pixel written is read back; every other pixel reads as before. -/
theorem Image.pixel_write (img : Image) (key : Nat) (p : Pixel) (other : Nat) (h : Image.wf img = true) :
    Image.pixel (Image.write img key p) other = if other = key then p else Image.pixel img other := by
  induction img with
  | nil =>
    unfold Image.write
    split
    · next e => simp [Image.pixel, e]
    · simp [Image.pixel]
  | cons e rest ih =>
    obtain ⟨k, q⟩ := e
    simp only [Image.wf, Bool.and_eq_true, decide_eq_true_eq] at h
    obtain ⟨⟨hq, ha⟩, hr⟩ := h
    unfold Image.write
    split
    · next hlt =>
      have hb := Image.pixel_of_above (Image.above_of_lt hlt ha)
      split
      · next e =>
        by_cases ho : other = key
        · subst ho
          simp only [Image.pixel, if_neg (Nat.ne_of_lt hlt), hb, if_true, e]
        · simp only [if_neg ho]
      · simp only [Image.pixel]
    · split
      · next hk =>
        have hb := Image.pixel_of_above ha
        split
        · next e =>
          by_cases ho : other = k
          · simp only [hk, ho, hb, if_true, e]
          · simp only [Image.pixel, hk, if_neg ho]
        · simp only [Image.pixel, hk]
          split <;> rfl
      · next hlt hne =>
        simp only [Image.pixel, ih hr]
        by_cases ho : other = k
        · have : other ≠ key := by omega
          simp only [if_pos ho, if_neg this]
        · simp only [if_neg ho]

/-- A run placed keeps the canonical form. -/
theorem wf_placeRun (plan : Plan) (line column : Nat) (pixels : List RawPixel) (img : Image)
    (h : Image.wf img = true) : Image.wf (placeRun plan line column pixels img) = true := by
  unfold placeRun
  split
  · next c =>
    induction pixels generalizing img column with
    | nil => exact h
    | cons px rest ih =>
      rw [List.foldl_cons]
      cases hn : c.native line column with
      | none => exact ih (column + 1) img h
      | some xy => exact ih (column + 1) _ (Image.wf_write _ _ _ h)
  · exact h

end Sys2Proof.Machine
end

