-- ==== Sys2Proof/Laws/Library.lean ====
section
/-! SUPPORT. The field checks of LIB-CLOSE (R88): what a word of a load passes, and which word is the first that fails. -/

namespace Sys2Proof.Machine

/-- A word of an identity as a number. -/
theorem identityWord_toNat (id : W64) {i : Nat} (h : i ≤ 3) :
    (identityWord id i).toNat = id.toNat / 65536 ^ (3 - i) % 65536 := by
  have : i = 0 ∨ i = 1 ∨ i = 2 ∨ i = 3 := by omega
  rcases this with rfl | rfl | rfl | rfl <;>
    simp [identityWord, BitVec.toNat_setWidth, BitVec.toNat_ushiftRight, Nat.shiftRight_eq_div_pow]

/-- Defect `k` has the place of an earlier one. -/
theorem duplicateDefect_iff (r : Record) (k : Nat) :
    duplicateDefect r k = true ↔ ∃ j, j < k ∧ r.getD (31 + 3 * j) 0 = r.getD (31 + 3 * k) 0 ∧
      r.getD (32 + 3 * j) 0 = r.getD (32 + 3 * k) 0 := by
  simp [duplicateDefect, recWord, List.any_eq_true]

/-- The check of one word is the table of R88. -/
theorem wordPasses_iff (id : W64) (r : Record) (i : Nat) : wordPasses id r i = true ↔ recordWordPasses id r i := by
  rcases Nat.lt_or_ge 30 i with h | h
  · obtain ⟨k, rfl | rfl | rfl⟩ : ∃ k, i = 31 + 3 * k ∨ i = 32 + 3 * k ∨ i = 33 + 3 * k := ⟨(i - 31) / 3, by omega⟩
    all_goals
      unfold recordWordPasses wordPasses
      repeat rw [if_neg (by omega)]
    · rw [show (31 + 3 * k - 31) % 3 = 0 by omega]
      simp only [decide_eq_true_eq]
      constructor
      · intro hw
        refine ⟨?_, ?_, ?_, ?_, ?_, ?_, ?_, ?_, ?_, fun j => ⟨?_, ?_, ?_⟩⟩ <;> intros <;> first | omega | exact hw
      · intro hw
        exact (hw.2.2.2.2.2.2.2.2.2 k).1 rfl
    · rw [show (32 + 3 * k - 31) % 3 = 1 by omega, show (32 + 3 * k - 31) / 3 = k by omega]
      simp only [Bool.and_eq_true, decide_eq_true_eq, Bool.not_eq_true', ← Bool.not_eq_true, duplicateDefect_iff]
      constructor
      · rintro ⟨hw, hd⟩
        refine ⟨?_, ?_, ?_, ?_, ?_, ?_, ?_, ?_, ?_, fun j => ⟨?_, fun e => ?_, ?_⟩⟩ <;> intros <;> try omega
        obtain rfl : k = j := by omega
        exact ⟨hw, fun i hi he => hd ⟨i, hi, he⟩⟩
      · intro hw
        obtain ⟨h1, h2⟩ := (hw.2.2.2.2.2.2.2.2.2 k).2.1 rfl
        exact ⟨h1, fun ⟨j, hj, he⟩ => h2 j hj he⟩
    · rw [show (33 + 3 * k - 31) % 3 = 2 by omega]
      simp only [Bool.or_eq_true, decide_eq_true_eq]
      constructor
      · intro hw
        refine ⟨?_, ?_, ?_, ?_, ?_, ?_, ?_, ?_, ?_, fun j => ⟨?_, ?_, ?_⟩⟩ <;> intros <;> first | omega | exact hw
      · intro hw
        exact (hw.2.2.2.2.2.2.2.2.2 k).2.2 rfl
  · have hid := @identityWord_toNat id i
    unfold recordWordPasses wordPasses
    unfold sizeOk within recNat recInt recWord
    by_cases h3 : i ≤ 3
    · rw [if_pos h3, beq_iff_eq, ← BitVec.toNat_inj, hid h3]
      refine ⟨fun e => ⟨fun _ => e, ?_, ?_, ?_, ?_, ?_, ?_, ?_, ?_, fun k => ⟨?_, ?_, ?_⟩⟩, fun e => e.1 h3⟩ <;> intros <;> omega
    · have h4 : 4 ≤ i := by omega
      simp only [h3, false_imp_iff, true_and, if_false]
      clear hid
      interval_cases i <;> simp [and_assoc] <;> intros <;> refine ⟨?_, ?_, ?_⟩ <;> intro <;> omega

/-- No word fails. -/
theorem firstBadWord_eq_none (id : W64) (r : Record) :
    firstBadWord id r = none ↔ ∀ i, i < r.length → recordWordPasses id r i := by
  simp [firstBadWord, List.find?_eq_none, ← wordPasses_iff]

/-- The first word that fails. -/
theorem firstBadWord_eq_some (id : W64) (r : Record) (i : Nat) (h : i < r.length) (hi : ¬ recordWordPasses id r i)
    (hj : ∀ j, j < i → recordWordPasses id r j) : firstBadWord id r = some i := by
  simp only [← wordPasses_iff] at hi hj
  simp only [firstBadWord, List.find?_range_eq_some]
  simp_all

end Sys2Proof.Machine
end

