-- ==== Sys2Proof/Laws/State.lean ====
section
/-! SUPPORT. What each update of State leaves in each field: one lemma per update, which says it of all twenty-six
fields, and the lemmas of tables and of the two upstream ports. -/

namespace Sys2Proof

namespace Table

variable {α β : Type} {n : Nat}

@[simp] theorem get_set_self (t : Table α n) (i : Fin n) (a : α) : (t.set i a).get i = a := by
  simp [get, set]

theorem get_set_of_ne (t : Table α n) {i j : Fin n} (a : α) (h : i ≠ j) : (t.set i a).get j = t.get j := by
  have : i.val ≠ j.val := fun e => h (Fin.ext e)
  simp [get, set, this]

theorem get_set (t : Table α n) (i j : Fin n) (a : α) : (t.set i a).get j = if i = j then a else t.get j := by
  split
  · next h => rw [← h, get_set_self]
  · next h => exact get_set_of_ne t a h

@[simp] theorem get_map (f : α → β) (t : Table α n) (i : Fin n) : (t.map f).get i = f (t.get i) := by
  simp [get, map]

@[simp] theorem get_replicate (a : α) (i : Fin n) : (replicate n a).get i = a := by
  simp [get, replicate]

@[simp] theorem get_tabulate (f : Fin n → α) (i : Fin n) : (tabulate f).get i = f i := by
  simp [get, tabulate]

/-- Two tables with the same entry at every index are equal. -/
theorem ext_get {t u : Table α n} (h : ∀ i, t.get i = u.get i) : t = u := by
  cases t with
  | mk l hl =>
    cases u with
    | mk m hm =>
      have : l = m := List.ext_getElem (by rw [hl, hm]) fun i h1 _ => h ⟨i, hl ▸ h1⟩
      subst this
      rfl

@[simp] theorem set_set (t : Table α n) (i : Fin n) (a b : α) : (t.set i a).set i b = t.set i b :=
  ext_get fun j => by simp only [get_set]; split <;> rfl

theorem set_get_self (t : Table α n) (i : Fin n) : t.set i (t.get i) = t :=
  ext_get fun j => by simp only [get_set]; split <;> simp_all

end Table

/-- `allSlots` lists every slot. -/
theorem mem_allSlots (k : SlotId) : k ∈ allSlots := by
  revert k; decide

namespace Machine

/-! ## One update, every field -/

@[simp] theorem State.withPending_fields (s : State) (x : List Instr) :
    (s.withPending x).pending = x ∧ (s.withPending x).clock = s.clock ∧ (s.withPending x).ua = s.ua ∧
    (s.withPending x).ub = s.ub ∧ (s.withPending x).d = s.d ∧ (s.withPending x).selector = s.selector ∧
    (s.withPending x).plans = s.plans ∧ (s.withPending x).shown = s.shown ∧ (s.withPending x).incoming = s.incoming ∧
    (s.withPending x).receiver = s.receiver ∧ (s.withPending x).engine = s.engine ∧
    (s.withPending x).counts = s.counts ∧ (s.withPending x).tiles = s.tiles ∧ (s.withPending x).query = s.query ∧
    (s.withPending x).records = s.records ∧ (s.withPending x).load = s.load ∧ (s.withPending x).bands = s.bands ∧
    (s.withPending x).drift = s.drift ∧ (s.withPending x).level = s.level ∧ (s.withPending x).settings = s.settings ∧
    (s.withPending x).flags = s.flags ∧ (s.withPending x).holder = s.holder ∧ (s.withPending x).restart = s.restart ∧
    (s.withPending x).waiting = s.waiting ∧ (s.withPending x).causes = s.causes ∧
    (s.withPending x).noticePlaced = s.noticePlaced := by
  and_intros <;> rfl

@[simp] theorem State.withClock_fields (s : State) (x : Nat) :
    (s.withClock x).pending = s.pending ∧ (s.withClock x).clock = x ∧ (s.withClock x).ua = s.ua ∧
    (s.withClock x).ub = s.ub ∧ (s.withClock x).d = s.d ∧ (s.withClock x).selector = s.selector ∧
    (s.withClock x).plans = s.plans ∧ (s.withClock x).shown = s.shown ∧ (s.withClock x).incoming = s.incoming ∧
    (s.withClock x).receiver = s.receiver ∧ (s.withClock x).engine = s.engine ∧ (s.withClock x).counts = s.counts ∧
    (s.withClock x).tiles = s.tiles ∧ (s.withClock x).query = s.query ∧ (s.withClock x).records = s.records ∧
    (s.withClock x).load = s.load ∧ (s.withClock x).bands = s.bands ∧ (s.withClock x).drift = s.drift ∧
    (s.withClock x).level = s.level ∧ (s.withClock x).settings = s.settings ∧ (s.withClock x).flags = s.flags ∧
    (s.withClock x).holder = s.holder ∧ (s.withClock x).restart = s.restart ∧ (s.withClock x).waiting = s.waiting ∧
    (s.withClock x).causes = s.causes ∧ (s.withClock x).noticePlaced = s.noticePlaced := by
  and_intros <;> rfl

@[simp] theorem State.withUa_fields (s : State) (x : Upstream) :
    (s.withUa x).pending = s.pending ∧ (s.withUa x).clock = s.clock ∧ (s.withUa x).ua = x ∧ (s.withUa x).ub = s.ub ∧
    (s.withUa x).d = s.d ∧ (s.withUa x).selector = s.selector ∧ (s.withUa x).plans = s.plans ∧
    (s.withUa x).shown = s.shown ∧ (s.withUa x).incoming = s.incoming ∧ (s.withUa x).receiver = s.receiver ∧
    (s.withUa x).engine = s.engine ∧ (s.withUa x).counts = s.counts ∧ (s.withUa x).tiles = s.tiles ∧
    (s.withUa x).query = s.query ∧ (s.withUa x).records = s.records ∧ (s.withUa x).load = s.load ∧
    (s.withUa x).bands = s.bands ∧ (s.withUa x).drift = s.drift ∧ (s.withUa x).level = s.level ∧
    (s.withUa x).settings = s.settings ∧ (s.withUa x).flags = s.flags ∧ (s.withUa x).holder = s.holder ∧
    (s.withUa x).restart = s.restart ∧ (s.withUa x).waiting = s.waiting ∧ (s.withUa x).causes = s.causes ∧
    (s.withUa x).noticePlaced = s.noticePlaced := by
  and_intros <;> rfl

@[simp] theorem State.withUb_fields (s : State) (x : Upstream) :
    (s.withUb x).pending = s.pending ∧ (s.withUb x).clock = s.clock ∧ (s.withUb x).ua = s.ua ∧ (s.withUb x).ub = x ∧
    (s.withUb x).d = s.d ∧ (s.withUb x).selector = s.selector ∧ (s.withUb x).plans = s.plans ∧
    (s.withUb x).shown = s.shown ∧ (s.withUb x).incoming = s.incoming ∧ (s.withUb x).receiver = s.receiver ∧
    (s.withUb x).engine = s.engine ∧ (s.withUb x).counts = s.counts ∧ (s.withUb x).tiles = s.tiles ∧
    (s.withUb x).query = s.query ∧ (s.withUb x).records = s.records ∧ (s.withUb x).load = s.load ∧
    (s.withUb x).bands = s.bands ∧ (s.withUb x).drift = s.drift ∧ (s.withUb x).level = s.level ∧
    (s.withUb x).settings = s.settings ∧ (s.withUb x).flags = s.flags ∧ (s.withUb x).holder = s.holder ∧
    (s.withUb x).restart = s.restart ∧ (s.withUb x).waiting = s.waiting ∧ (s.withUb x).causes = s.causes ∧
    (s.withUb x).noticePlaced = s.noticePlaced := by
  and_intros <;> rfl

@[simp] theorem State.withD_fields (s : State) (x : ChainPort) :
    (s.withD x).pending = s.pending ∧ (s.withD x).clock = s.clock ∧ (s.withD x).ua = s.ua ∧ (s.withD x).ub = s.ub ∧
    (s.withD x).d = x ∧ (s.withD x).selector = s.selector ∧ (s.withD x).plans = s.plans ∧
    (s.withD x).shown = s.shown ∧ (s.withD x).incoming = s.incoming ∧ (s.withD x).receiver = s.receiver ∧
    (s.withD x).engine = s.engine ∧ (s.withD x).counts = s.counts ∧ (s.withD x).tiles = s.tiles ∧
    (s.withD x).query = s.query ∧ (s.withD x).records = s.records ∧ (s.withD x).load = s.load ∧
    (s.withD x).bands = s.bands ∧ (s.withD x).drift = s.drift ∧ (s.withD x).level = s.level ∧
    (s.withD x).settings = s.settings ∧ (s.withD x).flags = s.flags ∧ (s.withD x).holder = s.holder ∧
    (s.withD x).restart = s.restart ∧ (s.withD x).waiting = s.waiting ∧ (s.withD x).causes = s.causes ∧
    (s.withD x).noticePlaced = s.noticePlaced := by
  and_intros <;> rfl

@[simp] theorem State.withSelector_fields (s : State) (x : Selector) :
    (s.withSelector x).pending = s.pending ∧ (s.withSelector x).clock = s.clock ∧ (s.withSelector x).ua = s.ua ∧
    (s.withSelector x).ub = s.ub ∧ (s.withSelector x).d = s.d ∧ (s.withSelector x).selector = x ∧
    (s.withSelector x).plans = s.plans ∧ (s.withSelector x).shown = s.shown ∧
    (s.withSelector x).incoming = s.incoming ∧ (s.withSelector x).receiver = s.receiver ∧
    (s.withSelector x).engine = s.engine ∧ (s.withSelector x).counts = s.counts ∧
    (s.withSelector x).tiles = s.tiles ∧ (s.withSelector x).query = s.query ∧
    (s.withSelector x).records = s.records ∧ (s.withSelector x).load = s.load ∧ (s.withSelector x).bands = s.bands ∧
    (s.withSelector x).drift = s.drift ∧ (s.withSelector x).level = s.level ∧
    (s.withSelector x).settings = s.settings ∧ (s.withSelector x).flags = s.flags ∧
    (s.withSelector x).holder = s.holder ∧ (s.withSelector x).restart = s.restart ∧
    (s.withSelector x).waiting = s.waiting ∧ (s.withSelector x).causes = s.causes ∧
    (s.withSelector x).noticePlaced = s.noticePlaced := by
  and_intros <;> rfl

@[simp] theorem State.withPlans_fields (s : State) (x : Table Plan 16) :
    (s.withPlans x).pending = s.pending ∧ (s.withPlans x).clock = s.clock ∧ (s.withPlans x).ua = s.ua ∧
    (s.withPlans x).ub = s.ub ∧ (s.withPlans x).d = s.d ∧ (s.withPlans x).selector = s.selector ∧
    (s.withPlans x).plans = x ∧ (s.withPlans x).shown = s.shown ∧ (s.withPlans x).incoming = s.incoming ∧
    (s.withPlans x).receiver = s.receiver ∧ (s.withPlans x).engine = s.engine ∧ (s.withPlans x).counts = s.counts ∧
    (s.withPlans x).tiles = s.tiles ∧ (s.withPlans x).query = s.query ∧ (s.withPlans x).records = s.records ∧
    (s.withPlans x).load = s.load ∧ (s.withPlans x).bands = s.bands ∧ (s.withPlans x).drift = s.drift ∧
    (s.withPlans x).level = s.level ∧ (s.withPlans x).settings = s.settings ∧ (s.withPlans x).flags = s.flags ∧
    (s.withPlans x).holder = s.holder ∧ (s.withPlans x).restart = s.restart ∧ (s.withPlans x).waiting = s.waiting ∧
    (s.withPlans x).causes = s.causes ∧ (s.withPlans x).noticePlaced = s.noticePlaced := by
  and_intros <;> rfl

@[simp] theorem State.withShown_fields (s : State) (x : Table Image 16) :
    (s.withShown x).pending = s.pending ∧ (s.withShown x).clock = s.clock ∧ (s.withShown x).ua = s.ua ∧
    (s.withShown x).ub = s.ub ∧ (s.withShown x).d = s.d ∧ (s.withShown x).selector = s.selector ∧
    (s.withShown x).plans = s.plans ∧ (s.withShown x).shown = x ∧ (s.withShown x).incoming = s.incoming ∧
    (s.withShown x).receiver = s.receiver ∧ (s.withShown x).engine = s.engine ∧ (s.withShown x).counts = s.counts ∧
    (s.withShown x).tiles = s.tiles ∧ (s.withShown x).query = s.query ∧ (s.withShown x).records = s.records ∧
    (s.withShown x).load = s.load ∧ (s.withShown x).bands = s.bands ∧ (s.withShown x).drift = s.drift ∧
    (s.withShown x).level = s.level ∧ (s.withShown x).settings = s.settings ∧ (s.withShown x).flags = s.flags ∧
    (s.withShown x).holder = s.holder ∧ (s.withShown x).restart = s.restart ∧ (s.withShown x).waiting = s.waiting ∧
    (s.withShown x).causes = s.causes ∧ (s.withShown x).noticePlaced = s.noticePlaced := by
  and_intros <;> rfl

@[simp] theorem State.withIncoming_fields (s : State) (x : Table Image 16) :
    (s.withIncoming x).pending = s.pending ∧ (s.withIncoming x).clock = s.clock ∧ (s.withIncoming x).ua = s.ua ∧
    (s.withIncoming x).ub = s.ub ∧ (s.withIncoming x).d = s.d ∧ (s.withIncoming x).selector = s.selector ∧
    (s.withIncoming x).plans = s.plans ∧ (s.withIncoming x).shown = s.shown ∧ (s.withIncoming x).incoming = x ∧
    (s.withIncoming x).receiver = s.receiver ∧ (s.withIncoming x).engine = s.engine ∧
    (s.withIncoming x).counts = s.counts ∧ (s.withIncoming x).tiles = s.tiles ∧ (s.withIncoming x).query = s.query ∧
    (s.withIncoming x).records = s.records ∧ (s.withIncoming x).load = s.load ∧ (s.withIncoming x).bands = s.bands ∧
    (s.withIncoming x).drift = s.drift ∧ (s.withIncoming x).level = s.level ∧
    (s.withIncoming x).settings = s.settings ∧ (s.withIncoming x).flags = s.flags ∧
    (s.withIncoming x).holder = s.holder ∧ (s.withIncoming x).restart = s.restart ∧
    (s.withIncoming x).waiting = s.waiting ∧ (s.withIncoming x).causes = s.causes ∧
    (s.withIncoming x).noticePlaced = s.noticePlaced := by
  and_intros <;> rfl

@[simp] theorem State.withReceiver_fields (s : State) (x : Receiver) :
    (s.withReceiver x).pending = s.pending ∧ (s.withReceiver x).clock = s.clock ∧ (s.withReceiver x).ua = s.ua ∧
    (s.withReceiver x).ub = s.ub ∧ (s.withReceiver x).d = s.d ∧ (s.withReceiver x).selector = s.selector ∧
    (s.withReceiver x).plans = s.plans ∧ (s.withReceiver x).shown = s.shown ∧
    (s.withReceiver x).incoming = s.incoming ∧ (s.withReceiver x).receiver = x ∧
    (s.withReceiver x).engine = s.engine ∧ (s.withReceiver x).counts = s.counts ∧
    (s.withReceiver x).tiles = s.tiles ∧ (s.withReceiver x).query = s.query ∧
    (s.withReceiver x).records = s.records ∧ (s.withReceiver x).load = s.load ∧ (s.withReceiver x).bands = s.bands ∧
    (s.withReceiver x).drift = s.drift ∧ (s.withReceiver x).level = s.level ∧
    (s.withReceiver x).settings = s.settings ∧ (s.withReceiver x).flags = s.flags ∧
    (s.withReceiver x).holder = s.holder ∧ (s.withReceiver x).restart = s.restart ∧
    (s.withReceiver x).waiting = s.waiting ∧ (s.withReceiver x).causes = s.causes ∧
    (s.withReceiver x).noticePlaced = s.noticePlaced := by
  and_intros <;> rfl

@[simp] theorem State.withEngine_fields (s : State) (x : Engine) :
    (s.withEngine x).pending = s.pending ∧ (s.withEngine x).clock = s.clock ∧ (s.withEngine x).ua = s.ua ∧
    (s.withEngine x).ub = s.ub ∧ (s.withEngine x).d = s.d ∧ (s.withEngine x).selector = s.selector ∧
    (s.withEngine x).plans = s.plans ∧ (s.withEngine x).shown = s.shown ∧ (s.withEngine x).incoming = s.incoming ∧
    (s.withEngine x).receiver = s.receiver ∧ (s.withEngine x).engine = x ∧ (s.withEngine x).counts = s.counts ∧
    (s.withEngine x).tiles = s.tiles ∧ (s.withEngine x).query = s.query ∧ (s.withEngine x).records = s.records ∧
    (s.withEngine x).load = s.load ∧ (s.withEngine x).bands = s.bands ∧ (s.withEngine x).drift = s.drift ∧
    (s.withEngine x).level = s.level ∧ (s.withEngine x).settings = s.settings ∧ (s.withEngine x).flags = s.flags ∧
    (s.withEngine x).holder = s.holder ∧ (s.withEngine x).restart = s.restart ∧
    (s.withEngine x).waiting = s.waiting ∧ (s.withEngine x).causes = s.causes ∧
    (s.withEngine x).noticePlaced = s.noticePlaced := by
  and_intros <;> rfl

@[simp] theorem State.withCounts_fields (s : State) (x : Table LimitCounts 16) :
    (s.withCounts x).pending = s.pending ∧ (s.withCounts x).clock = s.clock ∧ (s.withCounts x).ua = s.ua ∧
    (s.withCounts x).ub = s.ub ∧ (s.withCounts x).d = s.d ∧ (s.withCounts x).selector = s.selector ∧
    (s.withCounts x).plans = s.plans ∧ (s.withCounts x).shown = s.shown ∧ (s.withCounts x).incoming = s.incoming ∧
    (s.withCounts x).receiver = s.receiver ∧ (s.withCounts x).engine = s.engine ∧ (s.withCounts x).counts = x ∧
    (s.withCounts x).tiles = s.tiles ∧ (s.withCounts x).query = s.query ∧ (s.withCounts x).records = s.records ∧
    (s.withCounts x).load = s.load ∧ (s.withCounts x).bands = s.bands ∧ (s.withCounts x).drift = s.drift ∧
    (s.withCounts x).level = s.level ∧ (s.withCounts x).settings = s.settings ∧ (s.withCounts x).flags = s.flags ∧
    (s.withCounts x).holder = s.holder ∧ (s.withCounts x).restart = s.restart ∧
    (s.withCounts x).waiting = s.waiting ∧ (s.withCounts x).causes = s.causes ∧
    (s.withCounts x).noticePlaced = s.noticePlaced := by
  and_intros <;> rfl

@[simp] theorem State.withTiles_fields (s : State) (x : Table Tile 16) :
    (s.withTiles x).pending = s.pending ∧ (s.withTiles x).clock = s.clock ∧ (s.withTiles x).ua = s.ua ∧
    (s.withTiles x).ub = s.ub ∧ (s.withTiles x).d = s.d ∧ (s.withTiles x).selector = s.selector ∧
    (s.withTiles x).plans = s.plans ∧ (s.withTiles x).shown = s.shown ∧ (s.withTiles x).incoming = s.incoming ∧
    (s.withTiles x).receiver = s.receiver ∧ (s.withTiles x).engine = s.engine ∧ (s.withTiles x).counts = s.counts ∧
    (s.withTiles x).tiles = x ∧ (s.withTiles x).query = s.query ∧ (s.withTiles x).records = s.records ∧
    (s.withTiles x).load = s.load ∧ (s.withTiles x).bands = s.bands ∧ (s.withTiles x).drift = s.drift ∧
    (s.withTiles x).level = s.level ∧ (s.withTiles x).settings = s.settings ∧ (s.withTiles x).flags = s.flags ∧
    (s.withTiles x).holder = s.holder ∧ (s.withTiles x).restart = s.restart ∧ (s.withTiles x).waiting = s.waiting ∧
    (s.withTiles x).causes = s.causes ∧ (s.withTiles x).noticePlaced = s.noticePlaced := by
  and_intros <;> rfl

@[simp] theorem State.withQuery_fields (s : State) (x : QueryUnit) :
    (s.withQuery x).pending = s.pending ∧ (s.withQuery x).clock = s.clock ∧ (s.withQuery x).ua = s.ua ∧
    (s.withQuery x).ub = s.ub ∧ (s.withQuery x).d = s.d ∧ (s.withQuery x).selector = s.selector ∧
    (s.withQuery x).plans = s.plans ∧ (s.withQuery x).shown = s.shown ∧ (s.withQuery x).incoming = s.incoming ∧
    (s.withQuery x).receiver = s.receiver ∧ (s.withQuery x).engine = s.engine ∧ (s.withQuery x).counts = s.counts ∧
    (s.withQuery x).tiles = s.tiles ∧ (s.withQuery x).query = x ∧ (s.withQuery x).records = s.records ∧
    (s.withQuery x).load = s.load ∧ (s.withQuery x).bands = s.bands ∧ (s.withQuery x).drift = s.drift ∧
    (s.withQuery x).level = s.level ∧ (s.withQuery x).settings = s.settings ∧ (s.withQuery x).flags = s.flags ∧
    (s.withQuery x).holder = s.holder ∧ (s.withQuery x).restart = s.restart ∧ (s.withQuery x).waiting = s.waiting ∧
    (s.withQuery x).causes = s.causes ∧ (s.withQuery x).noticePlaced = s.noticePlaced := by
  and_intros <;> rfl

@[simp] theorem State.withRecords_fields (s : State) (x : List Record) :
    (s.withRecords x).pending = s.pending ∧ (s.withRecords x).clock = s.clock ∧ (s.withRecords x).ua = s.ua ∧
    (s.withRecords x).ub = s.ub ∧ (s.withRecords x).d = s.d ∧ (s.withRecords x).selector = s.selector ∧
    (s.withRecords x).plans = s.plans ∧ (s.withRecords x).shown = s.shown ∧ (s.withRecords x).incoming = s.incoming ∧
    (s.withRecords x).receiver = s.receiver ∧ (s.withRecords x).engine = s.engine ∧
    (s.withRecords x).counts = s.counts ∧ (s.withRecords x).tiles = s.tiles ∧ (s.withRecords x).query = s.query ∧
    (s.withRecords x).records = x ∧ (s.withRecords x).load = s.load ∧ (s.withRecords x).bands = s.bands ∧
    (s.withRecords x).drift = s.drift ∧ (s.withRecords x).level = s.level ∧ (s.withRecords x).settings = s.settings ∧
    (s.withRecords x).flags = s.flags ∧ (s.withRecords x).holder = s.holder ∧ (s.withRecords x).restart = s.restart ∧
    (s.withRecords x).waiting = s.waiting ∧ (s.withRecords x).causes = s.causes ∧
    (s.withRecords x).noticePlaced = s.noticePlaced := by
  and_intros <;> rfl

@[simp] theorem State.withLoad_fields (s : State) (x : Option Load) :
    (s.withLoad x).pending = s.pending ∧ (s.withLoad x).clock = s.clock ∧ (s.withLoad x).ua = s.ua ∧
    (s.withLoad x).ub = s.ub ∧ (s.withLoad x).d = s.d ∧ (s.withLoad x).selector = s.selector ∧
    (s.withLoad x).plans = s.plans ∧ (s.withLoad x).shown = s.shown ∧ (s.withLoad x).incoming = s.incoming ∧
    (s.withLoad x).receiver = s.receiver ∧ (s.withLoad x).engine = s.engine ∧ (s.withLoad x).counts = s.counts ∧
    (s.withLoad x).tiles = s.tiles ∧ (s.withLoad x).query = s.query ∧ (s.withLoad x).records = s.records ∧
    (s.withLoad x).load = x ∧ (s.withLoad x).bands = s.bands ∧ (s.withLoad x).drift = s.drift ∧
    (s.withLoad x).level = s.level ∧ (s.withLoad x).settings = s.settings ∧ (s.withLoad x).flags = s.flags ∧
    (s.withLoad x).holder = s.holder ∧ (s.withLoad x).restart = s.restart ∧ (s.withLoad x).waiting = s.waiting ∧
    (s.withLoad x).causes = s.causes ∧ (s.withLoad x).noticePlaced = s.noticePlaced := by
  and_intros <;> rfl

@[simp] theorem State.withBands_fields (s : State) (x : Table (Table Band 4) 16) :
    (s.withBands x).pending = s.pending ∧ (s.withBands x).clock = s.clock ∧ (s.withBands x).ua = s.ua ∧
    (s.withBands x).ub = s.ub ∧ (s.withBands x).d = s.d ∧ (s.withBands x).selector = s.selector ∧
    (s.withBands x).plans = s.plans ∧ (s.withBands x).shown = s.shown ∧ (s.withBands x).incoming = s.incoming ∧
    (s.withBands x).receiver = s.receiver ∧ (s.withBands x).engine = s.engine ∧ (s.withBands x).counts = s.counts ∧
    (s.withBands x).tiles = s.tiles ∧ (s.withBands x).query = s.query ∧ (s.withBands x).records = s.records ∧
    (s.withBands x).load = s.load ∧ (s.withBands x).bands = x ∧ (s.withBands x).drift = s.drift ∧
    (s.withBands x).level = s.level ∧ (s.withBands x).settings = s.settings ∧ (s.withBands x).flags = s.flags ∧
    (s.withBands x).holder = s.holder ∧ (s.withBands x).restart = s.restart ∧ (s.withBands x).waiting = s.waiting ∧
    (s.withBands x).causes = s.causes ∧ (s.withBands x).noticePlaced = s.noticePlaced := by
  and_intros <;> rfl

@[simp] theorem State.withDrift_fields (s : State) (x : Table Drift 16) :
    (s.withDrift x).pending = s.pending ∧ (s.withDrift x).clock = s.clock ∧ (s.withDrift x).ua = s.ua ∧
    (s.withDrift x).ub = s.ub ∧ (s.withDrift x).d = s.d ∧ (s.withDrift x).selector = s.selector ∧
    (s.withDrift x).plans = s.plans ∧ (s.withDrift x).shown = s.shown ∧ (s.withDrift x).incoming = s.incoming ∧
    (s.withDrift x).receiver = s.receiver ∧ (s.withDrift x).engine = s.engine ∧ (s.withDrift x).counts = s.counts ∧
    (s.withDrift x).tiles = s.tiles ∧ (s.withDrift x).query = s.query ∧ (s.withDrift x).records = s.records ∧
    (s.withDrift x).load = s.load ∧ (s.withDrift x).bands = s.bands ∧ (s.withDrift x).drift = x ∧
    (s.withDrift x).level = s.level ∧ (s.withDrift x).settings = s.settings ∧ (s.withDrift x).flags = s.flags ∧
    (s.withDrift x).holder = s.holder ∧ (s.withDrift x).restart = s.restart ∧ (s.withDrift x).waiting = s.waiting ∧
    (s.withDrift x).causes = s.causes ∧ (s.withDrift x).noticePlaced = s.noticePlaced := by
  and_intros <;> rfl

@[simp] theorem State.withLevel_fields (s : State) (x : Level) :
    (s.withLevel x).pending = s.pending ∧ (s.withLevel x).clock = s.clock ∧ (s.withLevel x).ua = s.ua ∧
    (s.withLevel x).ub = s.ub ∧ (s.withLevel x).d = s.d ∧ (s.withLevel x).selector = s.selector ∧
    (s.withLevel x).plans = s.plans ∧ (s.withLevel x).shown = s.shown ∧ (s.withLevel x).incoming = s.incoming ∧
    (s.withLevel x).receiver = s.receiver ∧ (s.withLevel x).engine = s.engine ∧ (s.withLevel x).counts = s.counts ∧
    (s.withLevel x).tiles = s.tiles ∧ (s.withLevel x).query = s.query ∧ (s.withLevel x).records = s.records ∧
    (s.withLevel x).load = s.load ∧ (s.withLevel x).bands = s.bands ∧ (s.withLevel x).drift = s.drift ∧
    (s.withLevel x).level = x ∧ (s.withLevel x).settings = s.settings ∧ (s.withLevel x).flags = s.flags ∧
    (s.withLevel x).holder = s.holder ∧ (s.withLevel x).restart = s.restart ∧ (s.withLevel x).waiting = s.waiting ∧
    (s.withLevel x).causes = s.causes ∧ (s.withLevel x).noticePlaced = s.noticePlaced := by
  and_intros <;> rfl

@[simp] theorem State.withSettings_fields (s : State) (x : Table Int 17) :
    (s.withSettings x).pending = s.pending ∧ (s.withSettings x).clock = s.clock ∧ (s.withSettings x).ua = s.ua ∧
    (s.withSettings x).ub = s.ub ∧ (s.withSettings x).d = s.d ∧ (s.withSettings x).selector = s.selector ∧
    (s.withSettings x).plans = s.plans ∧ (s.withSettings x).shown = s.shown ∧
    (s.withSettings x).incoming = s.incoming ∧ (s.withSettings x).receiver = s.receiver ∧
    (s.withSettings x).engine = s.engine ∧ (s.withSettings x).counts = s.counts ∧
    (s.withSettings x).tiles = s.tiles ∧ (s.withSettings x).query = s.query ∧
    (s.withSettings x).records = s.records ∧ (s.withSettings x).load = s.load ∧ (s.withSettings x).bands = s.bands ∧
    (s.withSettings x).drift = s.drift ∧ (s.withSettings x).level = s.level ∧ (s.withSettings x).settings = x ∧
    (s.withSettings x).flags = s.flags ∧ (s.withSettings x).holder = s.holder ∧
    (s.withSettings x).restart = s.restart ∧ (s.withSettings x).waiting = s.waiting ∧
    (s.withSettings x).causes = s.causes ∧ (s.withSettings x).noticePlaced = s.noticePlaced := by
  and_intros <;> rfl

@[simp] theorem State.withFlags_fields (s : State) (x : Table Bool 16) :
    (s.withFlags x).pending = s.pending ∧ (s.withFlags x).clock = s.clock ∧ (s.withFlags x).ua = s.ua ∧
    (s.withFlags x).ub = s.ub ∧ (s.withFlags x).d = s.d ∧ (s.withFlags x).selector = s.selector ∧
    (s.withFlags x).plans = s.plans ∧ (s.withFlags x).shown = s.shown ∧ (s.withFlags x).incoming = s.incoming ∧
    (s.withFlags x).receiver = s.receiver ∧ (s.withFlags x).engine = s.engine ∧ (s.withFlags x).counts = s.counts ∧
    (s.withFlags x).tiles = s.tiles ∧ (s.withFlags x).query = s.query ∧ (s.withFlags x).records = s.records ∧
    (s.withFlags x).load = s.load ∧ (s.withFlags x).bands = s.bands ∧ (s.withFlags x).drift = s.drift ∧
    (s.withFlags x).level = s.level ∧ (s.withFlags x).settings = s.settings ∧ (s.withFlags x).flags = x ∧
    (s.withFlags x).holder = s.holder ∧ (s.withFlags x).restart = s.restart ∧ (s.withFlags x).waiting = s.waiting ∧
    (s.withFlags x).causes = s.causes ∧ (s.withFlags x).noticePlaced = s.noticePlaced := by
  and_intros <;> rfl

@[simp] theorem State.withHolder_fields (s : State) (x : Option Up) :
    (s.withHolder x).pending = s.pending ∧ (s.withHolder x).clock = s.clock ∧ (s.withHolder x).ua = s.ua ∧
    (s.withHolder x).ub = s.ub ∧ (s.withHolder x).d = s.d ∧ (s.withHolder x).selector = s.selector ∧
    (s.withHolder x).plans = s.plans ∧ (s.withHolder x).shown = s.shown ∧ (s.withHolder x).incoming = s.incoming ∧
    (s.withHolder x).receiver = s.receiver ∧ (s.withHolder x).engine = s.engine ∧
    (s.withHolder x).counts = s.counts ∧ (s.withHolder x).tiles = s.tiles ∧ (s.withHolder x).query = s.query ∧
    (s.withHolder x).records = s.records ∧ (s.withHolder x).load = s.load ∧ (s.withHolder x).bands = s.bands ∧
    (s.withHolder x).drift = s.drift ∧ (s.withHolder x).level = s.level ∧ (s.withHolder x).settings = s.settings ∧
    (s.withHolder x).flags = s.flags ∧ (s.withHolder x).holder = x ∧ (s.withHolder x).restart = s.restart ∧
    (s.withHolder x).waiting = s.waiting ∧ (s.withHolder x).causes = s.causes ∧
    (s.withHolder x).noticePlaced = s.noticePlaced := by
  and_intros <;> rfl

@[simp] theorem State.withRestart_fields (s : State) (x : Option RestartWait) :
    (s.withRestart x).pending = s.pending ∧ (s.withRestart x).clock = s.clock ∧ (s.withRestart x).ua = s.ua ∧
    (s.withRestart x).ub = s.ub ∧ (s.withRestart x).d = s.d ∧ (s.withRestart x).selector = s.selector ∧
    (s.withRestart x).plans = s.plans ∧ (s.withRestart x).shown = s.shown ∧ (s.withRestart x).incoming = s.incoming ∧
    (s.withRestart x).receiver = s.receiver ∧ (s.withRestart x).engine = s.engine ∧
    (s.withRestart x).counts = s.counts ∧ (s.withRestart x).tiles = s.tiles ∧ (s.withRestart x).query = s.query ∧
    (s.withRestart x).records = s.records ∧ (s.withRestart x).load = s.load ∧ (s.withRestart x).bands = s.bands ∧
    (s.withRestart x).drift = s.drift ∧ (s.withRestart x).level = s.level ∧ (s.withRestart x).settings = s.settings ∧
    (s.withRestart x).flags = s.flags ∧ (s.withRestart x).holder = s.holder ∧ (s.withRestart x).restart = x ∧
    (s.withRestart x).waiting = s.waiting ∧ (s.withRestart x).causes = s.causes ∧
    (s.withRestart x).noticePlaced = s.noticePlaced := by
  and_intros <;> rfl

@[simp] theorem State.withWaiting_fields (s : State) (x : List Instr) :
    (s.withWaiting x).pending = s.pending ∧ (s.withWaiting x).clock = s.clock ∧ (s.withWaiting x).ua = s.ua ∧
    (s.withWaiting x).ub = s.ub ∧ (s.withWaiting x).d = s.d ∧ (s.withWaiting x).selector = s.selector ∧
    (s.withWaiting x).plans = s.plans ∧ (s.withWaiting x).shown = s.shown ∧ (s.withWaiting x).incoming = s.incoming ∧
    (s.withWaiting x).receiver = s.receiver ∧ (s.withWaiting x).engine = s.engine ∧
    (s.withWaiting x).counts = s.counts ∧ (s.withWaiting x).tiles = s.tiles ∧ (s.withWaiting x).query = s.query ∧
    (s.withWaiting x).records = s.records ∧ (s.withWaiting x).load = s.load ∧ (s.withWaiting x).bands = s.bands ∧
    (s.withWaiting x).drift = s.drift ∧ (s.withWaiting x).level = s.level ∧ (s.withWaiting x).settings = s.settings ∧
    (s.withWaiting x).flags = s.flags ∧ (s.withWaiting x).holder = s.holder ∧ (s.withWaiting x).restart = s.restart ∧
    (s.withWaiting x).waiting = x ∧ (s.withWaiting x).causes = s.causes ∧
    (s.withWaiting x).noticePlaced = s.noticePlaced := by
  and_intros <;> rfl

@[simp] theorem State.withCauses_fields (s : State) (x : Table CauseEntry 16) :
    (s.withCauses x).pending = s.pending ∧ (s.withCauses x).clock = s.clock ∧ (s.withCauses x).ua = s.ua ∧
    (s.withCauses x).ub = s.ub ∧ (s.withCauses x).d = s.d ∧ (s.withCauses x).selector = s.selector ∧
    (s.withCauses x).plans = s.plans ∧ (s.withCauses x).shown = s.shown ∧ (s.withCauses x).incoming = s.incoming ∧
    (s.withCauses x).receiver = s.receiver ∧ (s.withCauses x).engine = s.engine ∧
    (s.withCauses x).counts = s.counts ∧ (s.withCauses x).tiles = s.tiles ∧ (s.withCauses x).query = s.query ∧
    (s.withCauses x).records = s.records ∧ (s.withCauses x).load = s.load ∧ (s.withCauses x).bands = s.bands ∧
    (s.withCauses x).drift = s.drift ∧ (s.withCauses x).level = s.level ∧ (s.withCauses x).settings = s.settings ∧
    (s.withCauses x).flags = s.flags ∧ (s.withCauses x).holder = s.holder ∧ (s.withCauses x).restart = s.restart ∧
    (s.withCauses x).waiting = s.waiting ∧ (s.withCauses x).causes = x ∧
    (s.withCauses x).noticePlaced = s.noticePlaced := by
  and_intros <;> rfl

@[simp] theorem State.withNoticePlaced_fields (s : State) (x : Bool) :
    (s.withNoticePlaced x).pending = s.pending ∧ (s.withNoticePlaced x).clock = s.clock ∧
    (s.withNoticePlaced x).ua = s.ua ∧ (s.withNoticePlaced x).ub = s.ub ∧ (s.withNoticePlaced x).d = s.d ∧
    (s.withNoticePlaced x).selector = s.selector ∧ (s.withNoticePlaced x).plans = s.plans ∧
    (s.withNoticePlaced x).shown = s.shown ∧ (s.withNoticePlaced x).incoming = s.incoming ∧
    (s.withNoticePlaced x).receiver = s.receiver ∧ (s.withNoticePlaced x).engine = s.engine ∧
    (s.withNoticePlaced x).counts = s.counts ∧ (s.withNoticePlaced x).tiles = s.tiles ∧
    (s.withNoticePlaced x).query = s.query ∧ (s.withNoticePlaced x).records = s.records ∧
    (s.withNoticePlaced x).load = s.load ∧ (s.withNoticePlaced x).bands = s.bands ∧
    (s.withNoticePlaced x).drift = s.drift ∧ (s.withNoticePlaced x).level = s.level ∧
    (s.withNoticePlaced x).settings = s.settings ∧ (s.withNoticePlaced x).flags = s.flags ∧
    (s.withNoticePlaced x).holder = s.holder ∧ (s.withNoticePlaced x).restart = s.restart ∧
    (s.withNoticePlaced x).waiting = s.waiting ∧ (s.withNoticePlaced x).causes = s.causes ∧
    (s.withNoticePlaced x).noticePlaced = x := by
  and_intros <;> rfl

/-- Two states with the same fields are equal. -/
theorem State.ext_fields {s t : State}
    (h : s.pending = t.pending ∧ s.clock = t.clock ∧ s.ua = t.ua ∧ s.ub = t.ub ∧ s.d = t.d ∧ s.selector = t.selector ∧
    s.plans = t.plans ∧ s.shown = t.shown ∧ s.incoming = t.incoming ∧ s.receiver = t.receiver ∧ s.engine = t.engine ∧
    s.counts = t.counts ∧ s.tiles = t.tiles ∧ s.query = t.query ∧ s.records = t.records ∧ s.load = t.load ∧
    s.bands = t.bands ∧ s.drift = t.drift ∧ s.level = t.level ∧ s.settings = t.settings ∧ s.flags = t.flags ∧
    s.holder = t.holder ∧ s.restart = t.restart ∧ s.waiting = t.waiting ∧ s.causes = t.causes ∧
    s.noticePlaced = t.noticePlaced) : s = t := by
  cases s; cases t; simp_all

/-! ## The upstream ports -/

theorem State.up_ua (s : State) : s.up .ua = s.ua := rfl

theorem State.up_ub (s : State) : s.up .ub = s.ub := rfl

@[simp] theorem State.withUp_up_self (s : State) (p : Up) (x : Upstream) : (s.withUp p x).up p = x := by
  cases p <;> rfl

@[simp] theorem State.withUp_up_other (s : State) (p : Up) (x : Upstream) :
    (s.withUp p x).up (otherPort p) = s.up (otherPort p) := by
  cases p <;> rfl

theorem State.withUp_up (s : State) (p q : Up) (x : Upstream) : (s.withUp p x).up q = if p = q then x else s.up q := by
  cases p <;> cases q <;> rfl

@[simp] theorem State.withUp_withUp (s : State) (p : Up) (x y : Upstream) :
    (s.withUp p x).withUp p y = s.withUp p y := by
  cases p <;> rfl

@[simp] theorem State.withPending_up (s : State) (x : List Instr) (p : Up) : (s.withPending x).up p = s.up p := by
  cases p <;> rfl

@[simp] theorem State.withClock_up (s : State) (x : Nat) (p : Up) : (s.withClock x).up p = s.up p := by
  cases p <;> rfl

@[simp] theorem State.withD_up (s : State) (x : ChainPort) (p : Up) : (s.withD x).up p = s.up p := by
  cases p <;> rfl

@[simp] theorem State.withSelector_up (s : State) (x : Selector) (p : Up) : (s.withSelector x).up p = s.up p := by
  cases p <;> rfl

@[simp] theorem State.withPlans_up (s : State) (x : Table Plan 16) (p : Up) : (s.withPlans x).up p = s.up p := by
  cases p <;> rfl

@[simp] theorem State.withShown_up (s : State) (x : Table Image 16) (p : Up) : (s.withShown x).up p = s.up p := by
  cases p <;> rfl

@[simp] theorem State.withIncoming_up (s : State) (x : Table Image 16) (p : Up) : (s.withIncoming x).up p = s.up p := by
  cases p <;> rfl

@[simp] theorem State.withReceiver_up (s : State) (x : Receiver) (p : Up) : (s.withReceiver x).up p = s.up p := by
  cases p <;> rfl

@[simp] theorem State.withEngine_up (s : State) (x : Engine) (p : Up) : (s.withEngine x).up p = s.up p := by
  cases p <;> rfl

@[simp] theorem State.withCounts_up (s : State) (x : Table LimitCounts 16) (p : Up) : (s.withCounts x).up p = s.up p := by
  cases p <;> rfl

@[simp] theorem State.withTiles_up (s : State) (x : Table Tile 16) (p : Up) : (s.withTiles x).up p = s.up p := by
  cases p <;> rfl

@[simp] theorem State.withQuery_up (s : State) (x : QueryUnit) (p : Up) : (s.withQuery x).up p = s.up p := by
  cases p <;> rfl

@[simp] theorem State.withRecords_up (s : State) (x : List Record) (p : Up) : (s.withRecords x).up p = s.up p := by
  cases p <;> rfl

@[simp] theorem State.withLoad_up (s : State) (x : Option Load) (p : Up) : (s.withLoad x).up p = s.up p := by
  cases p <;> rfl

@[simp] theorem State.withBands_up (s : State) (x : Table (Table Band 4) 16) (p : Up) : (s.withBands x).up p = s.up p := by
  cases p <;> rfl

@[simp] theorem State.withDrift_up (s : State) (x : Table Drift 16) (p : Up) : (s.withDrift x).up p = s.up p := by
  cases p <;> rfl

@[simp] theorem State.withLevel_up (s : State) (x : Level) (p : Up) : (s.withLevel x).up p = s.up p := by
  cases p <;> rfl

@[simp] theorem State.withSettings_up (s : State) (x : Table Int 17) (p : Up) : (s.withSettings x).up p = s.up p := by
  cases p <;> rfl

@[simp] theorem State.withFlags_up (s : State) (x : Table Bool 16) (p : Up) : (s.withFlags x).up p = s.up p := by
  cases p <;> rfl

@[simp] theorem State.withHolder_up (s : State) (x : Option Up) (p : Up) : (s.withHolder x).up p = s.up p := by
  cases p <;> rfl

@[simp] theorem State.withRestart_up (s : State) (x : Option RestartWait) (p : Up) : (s.withRestart x).up p = s.up p := by
  cases p <;> rfl

@[simp] theorem State.withWaiting_up (s : State) (x : List Instr) (p : Up) : (s.withWaiting x).up p = s.up p := by
  cases p <;> rfl

@[simp] theorem State.withCauses_up (s : State) (x : Table CauseEntry 16) (p : Up) : (s.withCauses x).up p = s.up p := by
  cases p <;> rfl

@[simp] theorem State.withNoticePlaced_up (s : State) (x : Bool) (p : Up) : (s.withNoticePlaced x).up p = s.up p := by
  cases p <;> rfl

@[simp] theorem State.withUp_fields (s : State) (p : Up) (x : Upstream) :
    (s.withUp p x).pending = s.pending ∧ (s.withUp p x).clock = s.clock ∧ (s.withUp p x).d = s.d ∧
    (s.withUp p x).selector = s.selector ∧ (s.withUp p x).plans = s.plans ∧ (s.withUp p x).shown = s.shown ∧
    (s.withUp p x).incoming = s.incoming ∧ (s.withUp p x).receiver = s.receiver ∧ (s.withUp p x).engine = s.engine ∧
    (s.withUp p x).counts = s.counts ∧ (s.withUp p x).tiles = s.tiles ∧ (s.withUp p x).query = s.query ∧
    (s.withUp p x).records = s.records ∧ (s.withUp p x).load = s.load ∧ (s.withUp p x).bands = s.bands ∧
    (s.withUp p x).drift = s.drift ∧ (s.withUp p x).level = s.level ∧ (s.withUp p x).settings = s.settings ∧
    (s.withUp p x).flags = s.flags ∧ (s.withUp p x).holder = s.holder ∧ (s.withUp p x).restart = s.restart ∧
    (s.withUp p x).waiting = s.waiting ∧ (s.withUp p x).causes = s.causes ∧
    (s.withUp p x).noticePlaced = s.noticePlaced := by
  cases p <;> and_intros <;> rfl

end Machine

end Sys2Proof
end

