-- ==== Sys2Proof/Laws/Touches.lean ====
section
/-! SUPPORT. What each operation may change, said once for each: the parts of State it touches. From `h : Touches ps s t`,
`h f hf` says that part `f` of `t` is that of `s`, for every `f` not among `ps`. The lemmas are conditional simp
lemmas, so that `simp (maxDischargeDepth := 99)` proves a `Touches` of any chain of operations. -/

namespace Sys2Proof.Machine

set_option linter.unusedTactic false
set_option linter.unnecessarySeqFocus false
set_option linter.unusedSimpArgs false

@[simp] theorem Touches.refl (ps : List Part) (s : State) : Touches ps s s := by
  intro f _
  cases f <;> rfl

theorem Part.same_trans {s t u : State} {f : Part} (h : f.same s t) (g : f.same t u) : f.same s u := by
  cases f <;> exact Eq.trans g h

theorem Touches.trans {ps : List Part} {s t u : State} (h : Touches ps s t) (g : Touches ps t u) : Touches ps s u :=
  fun f hf => Part.same_trans (h f hf) (g f hf)

theorem Touches.mono {ps qs : List Part} {s t : State} (h : Touches ps s t) (sub : ps ⊆ qs) : Touches qs s t :=
  fun f hf => h f fun m => hf (sub m)

/-- A chain of operations extended by one that touches listed parts alone. -/
theorem Touches.then {ps qs : List Part} {s t u : State} (h : Touches ps s t) (g : Touches qs t u) (sub : qs ⊆ ps) :
    Touches ps s u :=
  h.trans (g.mono sub)

/-! ## The updates of one part -/

@[simp] theorem touches_withPending {ps : List Part} {s t : State} (x : List Instr) (h : Touches ps s t)
    (m : Part.pending ∈ ps) : Touches ps s (t.withPending x) :=
  h.then (qs := [.pending]) (by intro f hf; cases f <;> simp_all [Part.same]) (by simpa using m)

@[simp] theorem touches_withClock {ps : List Part} {s t : State} (x : Nat) (h : Touches ps s t)
    (m : Part.clock ∈ ps) : Touches ps s (t.withClock x) :=
  h.then (qs := [.clock]) (by intro f hf; cases f <;> simp_all [Part.same]) (by simpa using m)

@[simp] theorem touches_withD {ps : List Part} {s t : State} (x : ChainPort) (h : Touches ps s t)
    (m : Part.d ∈ ps) : Touches ps s (t.withD x) :=
  h.then (qs := [.d]) (by intro f hf; cases f <;> simp_all [Part.same]) (by simpa using m)

@[simp] theorem touches_withSelector {ps : List Part} {s t : State} (x : Selector) (h : Touches ps s t)
    (m : Part.selector ∈ ps) : Touches ps s (t.withSelector x) :=
  h.then (qs := [.selector]) (by intro f hf; cases f <;> simp_all [Part.same]) (by simpa using m)

@[simp] theorem touches_withPlans {ps : List Part} {s t : State} (x : Table Plan 16) (h : Touches ps s t)
    (m : Part.plans ∈ ps) : Touches ps s (t.withPlans x) :=
  h.then (qs := [.plans]) (by intro f hf; cases f <;> simp_all [Part.same]) (by simpa using m)

@[simp] theorem touches_withShown {ps : List Part} {s t : State} (x : Table Image 16) (h : Touches ps s t)
    (m : Part.shown ∈ ps) : Touches ps s (t.withShown x) :=
  h.then (qs := [.shown]) (by intro f hf; cases f <;> simp_all [Part.same]) (by simpa using m)

@[simp] theorem touches_withIncoming {ps : List Part} {s t : State} (x : Table Image 16) (h : Touches ps s t)
    (m : Part.incoming ∈ ps) : Touches ps s (t.withIncoming x) :=
  h.then (qs := [.incoming]) (by intro f hf; cases f <;> simp_all [Part.same]) (by simpa using m)

@[simp] theorem touches_withReceiver {ps : List Part} {s t : State} (x : Receiver) (h : Touches ps s t)
    (m : Part.receiver ∈ ps) : Touches ps s (t.withReceiver x) :=
  h.then (qs := [.receiver]) (by intro f hf; cases f <;> simp_all [Part.same]) (by simpa using m)

@[simp] theorem touches_withEngine {ps : List Part} {s t : State} (x : Engine) (h : Touches ps s t)
    (m : Part.engine ∈ ps) : Touches ps s (t.withEngine x) :=
  h.then (qs := [.engine]) (by intro f hf; cases f <;> simp_all [Part.same]) (by simpa using m)

@[simp] theorem touches_withCounts {ps : List Part} {s t : State} (x : Table LimitCounts 16) (h : Touches ps s t)
    (m : Part.counts ∈ ps) : Touches ps s (t.withCounts x) :=
  h.then (qs := [.counts]) (by intro f hf; cases f <;> simp_all [Part.same]) (by simpa using m)

@[simp] theorem touches_withTiles {ps : List Part} {s t : State} (x : Table Tile 16) (h : Touches ps s t)
    (m : Part.tiles ∈ ps) : Touches ps s (t.withTiles x) :=
  h.then (qs := [.tiles]) (by intro f hf; cases f <;> simp_all [Part.same]) (by simpa using m)

@[simp] theorem touches_withQuery {ps : List Part} {s t : State} (x : QueryUnit) (h : Touches ps s t)
    (m : Part.query ∈ ps) : Touches ps s (t.withQuery x) :=
  h.then (qs := [.query]) (by intro f hf; cases f <;> simp_all [Part.same]) (by simpa using m)

@[simp] theorem touches_withRecords {ps : List Part} {s t : State} (x : List Record) (h : Touches ps s t)
    (m : Part.records ∈ ps) : Touches ps s (t.withRecords x) :=
  h.then (qs := [.records]) (by intro f hf; cases f <;> simp_all [Part.same]) (by simpa using m)

@[simp] theorem touches_withLoad {ps : List Part} {s t : State} (x : Option Load) (h : Touches ps s t)
    (m : Part.load ∈ ps) : Touches ps s (t.withLoad x) :=
  h.then (qs := [.load]) (by intro f hf; cases f <;> simp_all [Part.same]) (by simpa using m)

@[simp] theorem touches_withBands {ps : List Part} {s t : State} (x : Table (Table Band 4) 16) (h : Touches ps s t)
    (m : Part.bands ∈ ps) : Touches ps s (t.withBands x) :=
  h.then (qs := [.bands]) (by intro f hf; cases f <;> simp_all [Part.same]) (by simpa using m)

@[simp] theorem touches_withDrift {ps : List Part} {s t : State} (x : Table Drift 16) (h : Touches ps s t)
    (m : Part.drift ∈ ps) : Touches ps s (t.withDrift x) :=
  h.then (qs := [.drift]) (by intro f hf; cases f <;> simp_all [Part.same]) (by simpa using m)

@[simp] theorem touches_withLevel {ps : List Part} {s t : State} (x : Level) (h : Touches ps s t)
    (m : Part.level ∈ ps) : Touches ps s (t.withLevel x) :=
  h.then (qs := [.level]) (by intro f hf; cases f <;> simp_all [Part.same]) (by simpa using m)

@[simp] theorem touches_withSettings {ps : List Part} {s t : State} (x : Table Int 17) (h : Touches ps s t)
    (m : Part.settings ∈ ps) : Touches ps s (t.withSettings x) :=
  h.then (qs := [.settings]) (by intro f hf; cases f <;> simp_all [Part.same]) (by simpa using m)

@[simp] theorem touches_withFlags {ps : List Part} {s t : State} (x : Table Bool 16) (h : Touches ps s t)
    (m : Part.flags ∈ ps) : Touches ps s (t.withFlags x) :=
  h.then (qs := [.flags]) (by intro f hf; cases f <;> simp_all [Part.same]) (by simpa using m)

@[simp] theorem touches_withHolder {ps : List Part} {s t : State} (x : Option Up) (h : Touches ps s t)
    (m : Part.holder ∈ ps) : Touches ps s (t.withHolder x) :=
  h.then (qs := [.holder]) (by intro f hf; cases f <;> simp_all [Part.same]) (by simpa using m)

@[simp] theorem touches_withRestart {ps : List Part} {s t : State} (x : Option RestartWait) (h : Touches ps s t)
    (m : Part.restart ∈ ps) : Touches ps s (t.withRestart x) :=
  h.then (qs := [.restart]) (by intro f hf; cases f <;> simp_all [Part.same]) (by simpa using m)

@[simp] theorem touches_withWaiting {ps : List Part} {s t : State} (x : List Instr) (h : Touches ps s t)
    (m : Part.waiting ∈ ps) : Touches ps s (t.withWaiting x) :=
  h.then (qs := [.waiting]) (by intro f hf; cases f <;> simp_all [Part.same]) (by simpa using m)

@[simp] theorem touches_withCauses {ps : List Part} {s t : State} (x : Table CauseEntry 16) (h : Touches ps s t)
    (m : Part.causes ∈ ps) : Touches ps s (t.withCauses x) :=
  h.then (qs := [.causes]) (by intro f hf; cases f <;> simp_all [Part.same]) (by simpa using m)

@[simp] theorem touches_withNoticePlaced {ps : List Part} {s t : State} (x : Bool) (h : Touches ps s t)
    (m : Part.noticePlaced ∈ ps) : Touches ps s (t.withNoticePlaced x) :=
  h.then (qs := [.noticePlaced]) (by intro f hf; cases f <;> simp_all [Part.same]) (by simpa using m)

@[simp] theorem touches_withUp {ps : List Part} {s t : State} (p : Up) (x : Upstream) (h : Touches ps s t)
    (m : Part.up p ∈ ps) : Touches ps s (t.withUp p x) :=
  h.then (qs := [.up p])
    (by intro f hf; cases f with
      | up q => simp [Part.same, State.withUp_up, show ¬p = q by rintro rfl; simp at hf]
      | _ => simp_all [Part.same])
    (by simpa using m)

/-! ## The operations -/

@[simp] theorem touches_raise {ps : List Part} {s t : State} (c : Cause) (k : Option SlotId) (h : Touches ps s t)
    (sub : ([.causes] : List Part) ⊆ ps) :
    Touches ps s (raise c k t) := by
  simp at sub; unfold raise; (try dsimp only); (repeat' split) <;> simp (maxDischargeDepth := 99) [h, sub]

@[simp] theorem touches_enqueue {ps : List Part} {s t : State} (p : Up) (c : Cell) (h : Touches ps s t)
    (sub : ([.up p] : List Part) ⊆ ps) :
    Touches ps s (t.enqueue p c) := by
  simp at sub; unfold State.enqueue; (try dsimp only); (repeat' split) <;> simp (maxDischargeDepth := 99) [h, sub]

@[simp] theorem touches_withTile {ps : List Part} {s t : State} (k : SlotId) (x : Tile) (h : Touches ps s t)
    (sub : ([.tiles] : List Part) ⊆ ps) :
    Touches ps s (t.withTile k x) := by
  simp at sub; unfold State.withTile; (try dsimp only); (repeat' split) <;> simp (maxDischargeDepth := 99) [h, sub]

@[simp] theorem touches_withDriftOf {ps : List Part} {s t : State} (k : SlotId) (x : Drift) (h : Touches ps s t)
    (sub : ([.drift] : List Part) ⊆ ps) :
    Touches ps s (t.withDriftOf k x) := by
  simp at sub; unfold State.withDriftOf; (try dsimp only); (repeat' split) <;> simp (maxDischargeDepth := 99) [h, sub]

@[simp] theorem touches_takeEditFlag {ps : List Part} {s t : State} (p : Up) (h : Touches ps s t)
    (sub : ([.flags, .holder] : List Part) ⊆ ps) :
    Touches ps s (takeEditFlag p t) := by
  simp at sub; unfold takeEditFlag; (try dsimp only); (repeat' split) <;> simp (maxDischargeDepth := 99) [h, sub]

@[simp] theorem touches_dropEditFlag {ps : List Part} {s t : State} (h : Touches ps s t)
    (sub : ([.flags, .holder] : List Part) ⊆ ps) :
    Touches ps s (dropEditFlag t) := by
  simp at sub; unfold dropEditFlag; (try dsimp only); (repeat' split) <;> simp (maxDischargeDepth := 99) [h, sub]

@[simp] theorem touches_releaseEditFlag {ps : List Part} {s t : State} (p : Up) (h : Touches ps s t)
    (sub : ([.flags, .holder, .causes] : List Part) ⊆ ps) :
    Touches ps s (releaseEditFlag p t) := by
  simp at sub; unfold releaseEditFlag; (try dsimp only); (repeat' split) <;> simp (maxDischargeDepth := 99) [h, sub]

@[simp] theorem touches_abandonFrame {ps : List Part} {s t : State} (h : Touches ps s t)
    (sub : ([.incoming, .receiver] : List Part) ⊆ ps) :
    Touches ps s (abandonFrame t) := by
  simp at sub; unfold abandonFrame; (try dsimp only); (repeat' split) <;> simp (maxDischargeDepth := 99) [h, sub]

@[simp] theorem touches_beginFrame {ps : List Part} {s t : State} (m : W16) (h : Touches ps s t)
    (sub : ([.incoming, .receiver] : List Part) ⊆ ps) :
    Touches ps s (beginFrame m t) := by
  simp at sub; unfold beginFrame; (try dsimp only); (repeat' split) <;> simp (maxDischargeDepth := 99) [h, sub]

@[simp] theorem touches_switchSource {ps : List Part} {s t : State} (x : Option Up) (h : Touches ps s t)
    (sub : ([.selector, .causes] : List Part) ⊆ ps) :
    Touches ps s (switchSource x t) := by
  simp at sub; unfold switchSource; (try dsimp only); (repeat' split) <;> simp (maxDischargeDepth := 99) [h, sub]

@[simp] theorem touches_settle {ps : List Part} {s t : State} (h : Touches ps s t)
    (sub : ([.selector, .incoming, .receiver, .causes] : List Part) ⊆ ps) :
    Touches ps s (settle t) := by
  simp at sub; unfold settle; (try dsimp only); (repeat' split) <;> simp (maxDischargeDepth := 99) [h, sub]

@[simp] theorem touches_carrySwitch {ps : List Part} {s t : State} (h : Touches ps s t)
    (sub : ([.selector, .causes] : List Part) ⊆ ps) :
    Touches ps s (carrySwitch t) := by
  simp at sub; unfold carrySwitch; (try dsimp only); (repeat' split) <;> simp (maxDischargeDepth := 99) [h, sub]

@[simp] theorem touches_receiveOpen {ps : List Part} {s t : State} (m : W16) (h : Touches ps s t)
    (sub : ([.selector, .incoming, .receiver, .causes] : List Part) ⊆ ps) :
    Touches ps s (receiveOpen m t) := by
  simp at sub; unfold receiveOpen; (try dsimp only); (repeat' split) <;> simp (maxDischargeDepth := 99) [h, sub]

@[simp] theorem touches_receiveRun {ps : List Part} {s t : State}
    (line column : Nat) (pixels : List RawPixel) (h : Touches ps s t)
    (sub : ([.incoming] : List Part) ⊆ ps) :
    Touches ps s (receiveRun line column pixels t) := by
  simp at sub; unfold receiveRun; (try dsimp only); (repeat' split) <;> simp (maxDischargeDepth := 99) [h, sub]

@[simp] theorem touches_closeLate {ps : List Part} {s t : State} (h : Touches ps s t)
    (sub : ([.up .ua, .up .ub] : List Part) ⊆ ps) :
    Touches ps s (closeLate t) := by
  simp at sub
  unfold closeLate
  split
  · next p _ => cases p <;> split <;> simp [h, sub]
  · exact h

@[simp] theorem touches_receiverLimit {ps : List Part} {s t : State} (h : Touches ps s t)
    (sub : ([.up .ua, .up .ub, .selector, .incoming, .receiver, .causes] : List Part) ⊆ ps) :
    Touches ps s (receiverLimit t) := by
  simp at sub; unfold receiverLimit; (try dsimp only); (repeat' split) <;> simp (maxDischargeDepth := 99) [h, sub]

@[simp] theorem touches_trackOpen {ps : List Part} {s t : State} (p : Up) (n : W16) (h : Touches ps s t)
    (sub : ([.up p] : List Part) ⊆ ps) :
    Touches ps s (trackOpen p n t) := by
  simp at sub; unfold trackOpen; (try dsimp only); (repeat' split) <;> simp (maxDischargeDepth := 99) [h, sub]

@[simp] theorem touches_tryUp {ps : List Part} {s t : State} (p : Up) (h : Touches ps s t)
    (sub : ([.up p, .selector, .incoming, .receiver, .causes] : List Part) ⊆ ps) :
    Touches ps s (tryUp p t) := by
  simp at sub; unfold tryUp; (try dsimp only); (repeat' split) <;> simp (maxDischargeDepth := 99) [h, sub]

@[simp] theorem touches_trackClose {ps : List Part} {s t : State} (p : Up) (n : W16) (h : Touches ps s t)
    (sub : ([.up p, .selector, .incoming, .receiver, .causes] : List Part) ⊆ ps) :
    Touches ps s (trackClose p n t) := by
  simp at sub; unfold trackClose; (try dsimp only); (repeat' split) <;> simp (maxDischargeDepth := 99) [h, sub]

@[simp] theorem touches_trackerLimit {ps : List Part} {s t : State} (p : Up) (h : Touches ps s t)
    (sub : ([.up p] : List Part) ⊆ ps) :
    Touches ps s (trackerLimit p t) := by
  simp at sub; unfold trackerLimit; (try dsimp only); (repeat' split) <;> simp (maxDischargeDepth := 99) [h, sub]

@[simp] theorem touches_leaveUpIfStale {ps : List Part} {s t : State} (p : Up) (h : Touches ps s t)
    (sub : ([.up p] : List Part) ⊆ ps) :
    Touches ps s (leaveUpIfStale p t) := by
  simp at sub; unfold leaveUpIfStale; (try dsimp only); (repeat' split) <;> simp (maxDischargeDepth := 99) [h, sub]

@[simp] theorem touches_sourceLoss {ps : List Part} {s t : State} (p : Up) (h : Touches ps s t)
    (sub : ([.up p, .selector, .incoming, .receiver, .causes] : List Part) ⊆ ps) :
    Touches ps s (sourceLoss p t) := by
  simp at sub; unfold sourceLoss; (try dsimp only); (repeat' split) <;> simp (maxDischargeDepth := 99) [h, sub]

@[simp] theorem touches_sourceLossBoth {ps : List Part} {s t : State} (h : Touches ps s t)
    (sub : ([.up .ua, .up .ub, .selector, .incoming, .receiver, .causes] : List Part) ⊆ ps) :
    Touches ps s (sourceLossBoth t) := by
  simp at sub; unfold sourceLossBoth; (try dsimp only); (repeat' split) <;> simp (maxDischargeDepth := 99) [h, sub]

@[simp] theorem touches_abandonLoadOf {ps : List Part} {s t : State} (p : Up) (h : Touches ps s t)
    (sub : ([.load, .causes] : List Part) ⊆ ps) :
    Touches ps s (abandonLoadOf p t) := by
  simp at sub; unfold abandonLoadOf; (try dsimp only); (repeat' split) <;> simp (maxDischargeDepth := 99) [h, sub]

@[simp] theorem touches_dropWaiting {ps : List Part} {s t : State} (p : Up) (h : Touches ps s t)
    (sub : ([.restart, .waiting] : List Part) ⊆ ps) :
    Touches ps s (dropWaiting p t) := by
  simp at sub; unfold dropWaiting; (try dsimp only); (repeat' split) <;> simp (maxDischargeDepth := 99) [h, sub]

@[simp] theorem touches_enterDown {ps : List Part} {s t : State} (p : Up) (h : Touches ps s t)
    (sub : ([.up p, .selector, .incoming, .receiver, .load, .flags, .holder, .restart, .waiting, .causes] : List Part) ⊆ ps) :
    Touches ps s (enterDown p t) := by
  simp at sub; unfold enterDown; (try dsimp only); (repeat' split) <;> simp (maxDischargeDepth := 99) [h, sub]

@[simp] theorem touches_crcFailedUp {ps : List Part} {s t : State} (p : Up) (h : Touches ps s t)
    (sub : ([.up p, .selector, .incoming, .receiver, .load, .flags, .holder, .restart, .waiting, .causes] : List Part) ⊆ ps) :
    Touches ps s (crcFailedUp p t) := by
  simp at sub; unfold crcFailedUp; (try dsimp only); (repeat' split) <;> simp (maxDischargeDepth := 99) [h, sub]

@[simp] theorem touches_setLost {ps : List Part} {s t : State} (p : Port) (x : Bool) (h : Touches ps s t)
    (sub : ([.up .ua, .up .ub, .d] : List Part) ⊆ ps) :
    Touches ps s (setLost p x t) := by
  simp at sub; unfold setLost; rcases p with (_ | _) | _ <;> simp (maxDischargeDepth := 99) [h, sub]

@[simp] theorem touches_countGoodUp {ps : List Part} {s t : State} (p : Up) (h : Touches ps s t)
    (sub : ([.up p, .selector, .incoming, .receiver, .causes] : List Part) ⊆ ps) :
    Touches ps s (countGoodUp p t) := by
  simp at sub; unfold countGoodUp; (try dsimp only); (repeat' split) <;> simp (maxDischargeDepth := 99) [h, sub]

@[simp] theorem touches_countForeign {ps : List Part} {s t : State} (p : Up) (h : Touches ps s t)
    (sub : ([.up p] : List Part) ⊆ ps) :
    Touches ps s (countForeign p t) := by
  simp at sub; unfold countForeign; (try dsimp only); (repeat' split) <;> simp (maxDischargeDepth := 99) [h, sub]

@[simp] theorem touches_countStray {ps : List Part} {s t : State} (h : Touches ps s t)
    (sub : ([.d] : List Part) ⊆ ps) :
    Touches ps s (countStray t) := by
  simp at sub; unfold countStray; (try dsimp only); (repeat' split) <;> simp (maxDischargeDepth := 99) [h, sub]

@[simp] theorem touches_countUnanswered {ps : List Part} {s t : State} (p : Up) (h : Touches ps s t)
    (sub : ([.up p] : List Part) ⊆ ps) :
    Touches ps s (countUnanswered p t) := by
  simp at sub; unfold countUnanswered; (try dsimp only); (repeat' split) <;> simp (maxDischargeDepth := 99) [h, sub]

@[simp] theorem touches_forwardAlert {ps : List Part} {s t : State} (c : Cell) (p : Up) (h : Touches ps s t)
    (sub : ([.up p, .d] : List Part) ⊆ ps) :
    Touches ps s (forwardAlert c p t) := by
  simp at sub; unfold forwardAlert; (try dsimp only); (repeat' split) <;> simp (maxDischargeDepth := 99) [h, sub]

@[simp] theorem touches_replyRestart {ps : List Part} {s t : State} (w : RestartWait) (h : Touches ps s t)
    (sub : ([.up w.port] : List Part) ⊆ ps) :
    Touches ps s (replyRestart w t) := by
  simp at sub; unfold replyRestart; (try dsimp only); (repeat' split) <;> simp (maxDischargeDepth := 99) [h, sub]

@[simp] theorem touches_placeNotice {ps : List Part} {s t : State} (c : Cell) (p : Up) (h : Touches ps s t)
    (sub : ([.up p] : List Part) ⊆ ps) :
    Touches ps s (placeNotice c p t) := by
  simp at sub; unfold placeNotice; (try dsimp only); (repeat' split) <;> simp (maxDischargeDepth := 99) [h, sub]

@[simp] theorem touches_announce {ps : List Part} {s t : State} (c : Fin 16) (h : Touches ps s t)
    (sub : ([.causes, .noticePlaced] : List Part) ⊆ ps) :
    Touches ps s (announce c t) := by
  simp at sub; unfold announce; (try dsimp only); (repeat' split) <;> simp (maxDischargeDepth := 99) [h, sub]

@[simp] theorem touches_noticeOffer {ps : List Part} {s t : State} (h : Touches ps s t)
    (sub : ([.up .ua, .up .ub, .causes, .noticePlaced] : List Part) ⊆ ps) :
    Touches ps s (noticeOffer t) := by
  simp at sub; unfold noticeOffer; (try dsimp only); (repeat' split) <;> simp (maxDischargeDepth := 99) [h, sub]

@[simp] theorem touches_loadLimit {ps : List Part} {s t : State} (h : Touches ps s t)
    (sub : ([.load, .causes] : List Part) ⊆ ps) :
    Touches ps s (loadLimit t) := by
  simp at sub; unfold loadLimit; (try dsimp only); (repeat' split) <;> simp (maxDischargeDepth := 99) [h, sub]

@[simp] theorem touches_holdLimit {ps : List Part} {s t : State} (h : Touches ps s t)
    (sub : ([.engine, .causes] : List Part) ⊆ ps) :
    Touches ps s (holdLimit t) := by
  simp at sub; unfold holdLimit; (try dsimp only); (repeat' split) <;> simp (maxDischargeDepth := 99) [h, sub]

/-- What every slot's operation touches, the operation on all slots touches. -/
theorem touches_forSlots {ps : List Part} {f : SlotId → State → State} {s t : State}
    (hf : ∀ k s t, Touches ps s t → Touches ps s (f k t)) (h : Touches ps s t) : Touches ps s (forSlots f t) := by
  unfold forSlots
  generalize allSlots = l
  induction l generalizing t with
  | nil => exact h
  | cons k l ih => exact ih (hf k s t h)

@[simp] theorem touches_computeTargets {ps : List Part} {s t : State} (k : SlotId) (h : Touches ps s t)
    (sub : ([.drift, .causes] : List Part) ⊆ ps) :
    Touches ps s (computeTargets k t) := by
  simp at sub; unfold computeTargets; (try dsimp only); (repeat' split) <;> simp (maxDischargeDepth := 99) [h, sub]

@[simp] theorem touches_initialiseDrift {ps : List Part} {s t : State} (k : SlotId) (h : Touches ps s t)
    (sub : ([.drift, .causes] : List Part) ⊆ ps) :
    Touches ps s (initialiseDrift k t) := by
  simp at sub; unfold initialiseDrift; (try dsimp only); (repeat' split) <;> simp (maxDischargeDepth := 99) [h, sub]

@[simp] theorem touches_storeReading {ps : List Part} {s t : State}
    (k : SlotId) (temperature : Int) (hours : Nat) (h : Touches ps s t)
    (sub : ([.drift, .causes] : List Part) ⊆ ps) :
    Touches ps s (storeReading k temperature hours t) := by
  simp at sub; unfold storeReading; (try dsimp only); (repeat' split) <;> simp (maxDischargeDepth := 99) [h, sub]

@[simp] theorem touches_recordMiss {ps : List Part} {s t : State} (k : SlotId) (h : Touches ps s t)
    (sub : ([.drift, .causes] : List Part) ⊆ ps) :
    Touches ps s (recordMiss k t) := by
  simp at sub; unfold recordMiss; (try dsimp only); (repeat' split) <;> simp (maxDischargeDepth := 99) [h, sub]

@[simp] theorem touches_slewAll {ps : List Part} {s t : State} (h : Touches ps s t)
    (sub : ([.drift] : List Part) ⊆ ps) :
    Touches ps s (slewAll t) := by
  simp at sub; unfold slewAll
  exact touches_forSlots (by intro k s t h; (repeat' split) <;> simp (maxDischargeDepth := 99) [h, sub]) h

@[simp] theorem touches_formLevel {ps : List Part} {s t : State} (h : Touches ps s t)
    (sub : ([.level, .causes] : List Part) ⊆ ps) :
    Touches ps s (formLevel t) := by
  simp at sub; unfold formLevel; (try dsimp only); (repeat' split) <;> simp (maxDischargeDepth := 99) [h, sub]

@[simp] theorem touches_raiseEntered {ps : List Part} {s t : State} (p : Presence) (k : SlotId) (h : Touches ps s t)
    (sub : ([.causes] : List Part) ⊆ ps) :
    Touches ps s (raiseEntered p k t) := by
  simp at sub; unfold raiseEntered; (try dsimp only); (repeat' split) <;> simp (maxDischargeDepth := 99) [h, sub]

@[simp] theorem touches_withdrawQuery {ps : List Part} {s t : State}
    (kind : QueryKind) (k : SlotId) (h : Touches ps s t)
    (sub : ([.query] : List Part) ⊆ ps) :
    Touches ps s (withdrawQuery kind k t) := by
  simp at sub; unfold withdrawQuery; (try dsimp only); (repeat' split) <;> simp (maxDischargeDepth := 99) [h, sub]

@[simp] theorem touches_leaveSenseList {ps : List Part} {s t : State} (k : SlotId) (h : Touches ps s t)
    (sub : ([.query] : List Part) ⊆ ps) :
    Touches ps s (leaveSenseList k t) := by
  simp at sub; unfold leaveSenseList; (try dsimp only); (repeat' split) <;> simp (maxDischargeDepth := 99) [h, sub]

@[simp] theorem touches_loseIdentity {ps : List Part} {s t : State} (k : SlotId) (h : Touches ps s t)
    (sub : ([.tiles, .query] : List Part) ⊆ ps) :
    Touches ps s (loseIdentity k t) := by
  simp at sub; unfold loseIdentity; (try dsimp only); (repeat' split) <;> simp (maxDischargeDepth := 99) [h, sub]

@[simp] theorem touches_becomeEmpty {ps : List Part} {s t : State} (k : SlotId) (h : Touches ps s t)
    (sub : ([.tiles, .query] : List Part) ⊆ ps) :
    Touches ps s (becomeEmpty k t) := by
  simp at sub; unfold becomeEmpty; (try dsimp only); (repeat' split) <;> simp (maxDischargeDepth := 99) [h, sub]

@[simp] theorem touches_becomeAbsent {ps : List Part} {s t : State} (k : SlotId) (h : Touches ps s t)
    (sub : ([.tiles] : List Part) ⊆ ps) :
    Touches ps s (becomeAbsent k t) := by
  simp at sub; unfold becomeAbsent; (try dsimp only); (repeat' split) <;> simp (maxDischargeDepth := 99) [h, sub]

@[simp] theorem touches_loseTile {ps : List Part} {s t : State} (k : SlotId) (h : Touches ps s t)
    (sub : ([.tiles, .query, .causes] : List Part) ⊆ ps) :
    Touches ps s (loseTile k t) := by
  simp at sub; unfold loseTile; (try dsimp only); (repeat' split) <;> simp (maxDischargeDepth := 99) [h, sub]

@[simp] theorem touches_identify {ps : List Part} {s t : State} (k : SlotId) (f : TileFacts) (h : Touches ps s t)
    (sub : ([.tiles, .drift, .causes] : List Part) ⊆ ps) :
    Touches ps s (identify k f t) := by
  simp at sub; unfold identify; (try dsimp only); (repeat' split) <;> simp (maxDischargeDepth := 99) [h, sub]

@[simp] theorem touches_movePresence {ps : List Part} {s t : State} (k : SlotId) (p : Presence) (h : Touches ps s t)
    (sub : ([.tiles, .drift, .causes] : List Part) ⊆ ps) :
    Touches ps s (movePresence k p t) := by
  simp at sub; unfold movePresence; (try dsimp only); (repeat' split) <;> simp (maxDischargeDepth := 99) [h, sub]

@[simp] theorem touches_reevaluate {ps : List Part} {s t : State} (k : SlotId) (h : Touches ps s t)
    (sub : ([.tiles, .drift, .causes] : List Part) ⊆ ps) :
    Touches ps s (reevaluate k t) := by
  simp at sub; unfold reevaluate; (try dsimp only); (repeat' split) <;> simp (maxDischargeDepth := 99) [h, sub]

@[simp] theorem touches_rejudge {ps : List Part} {s t : State} (id : W64) (k : SlotId) (h : Touches ps s t)
    (sub : ([.tiles, .drift, .causes] : List Part) ⊆ ps) :
    Touches ps s (rejudge id k t) := by
  simp at sub; unfold rejudge; (try dsimp only); (repeat' split) <;> simp (maxDischargeDepth := 99) [h, sub]

@[simp] theorem touches_applyLibraryChange {ps : List Part} {s t : State} (id : W64) (h : Touches ps s t)
    (sub : ([.tiles, .drift, .causes] : List Part) ⊆ ps) :
    Touches ps s (applyLibraryChange id t) := by
  simp at sub; unfold applyLibraryChange
  exact touches_forSlots (by intro k s t h; (repeat' split) <;> simp (maxDischargeDepth := 99) [h, sub]) h

@[simp] theorem touches_handOver {ps : List Part} {s t : State} (kind : QueryKind) (k : SlotId) (h : Touches ps s t)
    (sub : ([.query] : List Part) ⊆ ps) :
    Touches ps s (handOver kind k t) := by
  simp at sub; unfold handOver; (try dsimp only); (repeat' split) <;> simp (maxDischargeDepth := 99) [h, sub]

@[simp] theorem touches_chooseSense {ps : List Part} {s t : State} (h : Touches ps s t)
    (sub : ([.query] : List Part) ⊆ ps) :
    Touches ps s (chooseSense t) := by
  simp at sub; unfold chooseSense; (try dsimp only); (repeat' split) <;> simp (maxDischargeDepth := 99) [h, sub]

@[simp] theorem touches_chooseQuery {ps : List Part} {s t : State} (senses : Bool) (h : Touches ps s t)
    (sub : ([.query] : List Part) ⊆ ps) :
    Touches ps s (chooseQuery senses t) := by
  simp at sub; unfold chooseQuery; (try dsimp only); (repeat' split) <;> simp (maxDischargeDepth := 99) [h, sub]

@[simp] theorem touches_probeAllAbsent {ps : List Part} {s t : State} (h : Touches ps s t)
    (sub : ([.tiles] : List Part) ⊆ ps) :
    Touches ps s (probeAllAbsent t) := by
  simp at sub; unfold probeAllAbsent
  exact touches_forSlots (by intro k s t h; (repeat' split) <;> simp (maxDischargeDepth := 99) [h, sub]) h

@[simp] theorem touches_loseAllTiles {ps : List Part} {s t : State} (h : Touches ps s t)
    (sub : ([.tiles, .query, .causes] : List Part) ⊆ ps) :
    Touches ps s (loseAllTiles t) := by
  simp at sub; unfold loseAllTiles
  exact touches_forSlots (by intro k s t h; (repeat' split) <;> simp (maxDischargeDepth := 99) [h, sub]) h

@[simp] theorem touches_dropQuery {ps : List Part} {s t : State} (h : Touches ps s t)
    (sub : ([.query] : List Part) ⊆ ps) :
    Touches ps s (dropQuery t) := by
  simp at sub; unfold dropQuery; (try dsimp only); (repeat' split) <;> simp (maxDischargeDepth := 99) [h, sub]

@[simp] theorem touches_swap {ps : List Part} {s t : State} (h : Touches ps s t)
    (sub : ([.shown, .incoming, .receiver, .engine] : List Part) ⊆ ps) :
    Touches ps s (swap t) := by
  simp at sub; unfold swap; (try dsimp only); (repeat' split) <;> simp (maxDischargeDepth := 99) [h, sub]

@[simp] theorem touches_formIfNeeded {ps : List Part} {s t : State} (h : Touches ps s t)
    (sub : ([.engine] : List Part) ⊆ ps) :
    Touches ps s (formIfNeeded t) := by
  simp at sub; unfold formIfNeeded; (try dsimp only); (repeat' split) <;> simp (maxDischargeDepth := 99) [h, sub]

@[simp] theorem touches_enterScanning {ps : List Part} {s t : State} (h : Touches ps s t)
    (sub : ([.engine] : List Part) ⊆ ps) :
    Touches ps s (enterScanning t) := by
  simp at sub; unfold enterScanning; (try dsimp only); (repeat' split) <;> simp (maxDischargeDepth := 99) [h, sub]

@[simp] theorem touches_startScan {ps : List Part} {s t : State} (h : Touches ps s t)
    (sub : ([.shown, .incoming, .receiver, .engine, .drift, .level, .causes] : List Part) ⊆ ps) :
    Touches ps s (startScan t) := by
  simp at sub; unfold startScan; (try dsimp only); (repeat' split) <;> simp (maxDischargeDepth := 99) [h, sub]

@[simp] theorem touches_abortScan {ps : List Part} {s t : State} (h : Touches ps s t)
    (sub : ([.engine] : List Part) ⊆ ps) :
    Touches ps s (abortScan t) := by
  simp at sub; unfold abortScan; (try dsimp only); (repeat' split) <;> simp (maxDischargeDepth := 99) [h, sub]

@[simp] theorem touches_blankRestart {ps : List Part} {s t : State} (h : Touches ps s t)
    (sub : ([.shown, .incoming, .receiver, .engine, .drift, .level, .causes] : List Part) ⊆ ps) :
    Touches ps s (blankRestart t) := by
  simp at sub; unfold blankRestart; (try dsimp only); (repeat' split) <;> simp (maxDischargeDepth := 99) [h, sub]

@[simp] theorem touches_blankRestarts {ps : List Part} {s t : State} (n : Nat) (h : Touches ps s t)
    (sub : ([.shown, .incoming, .receiver, .engine, .drift, .level, .causes] : List Part) ⊆ ps) : Touches ps s (blankRestarts n t) := by
  induction n generalizing t with
  | zero => exact h
  | succ n ih => exact ih (touches_blankRestart h sub)

@[simp] theorem touches_transmit {ps : List Part} {s t : State} (c : Cell) (h : Touches ps s t)
    (sub : ([.d] : List Part) ⊆ ps) :
    Touches ps s (transmit c t) := by
  simp at sub; unfold transmit; (try dsimp only); (repeat' split) <;> simp (maxDischargeDepth := 99) [h, sub]

@[simp] theorem touches_beginScanCell {ps : List Part} {s t : State} (h : Touches ps s t)
    (sub : ([.d, .engine] : List Part) ⊆ ps) :
    Touches ps s (beginScanCell t) := by
  simp at sub; unfold beginScanCell; (try dsimp only); (repeat' split) <;> simp (maxDischargeDepth := 99) [h, sub]

@[simp] theorem touches_beginNext {ps : List Part} {s t : State} (h : Touches ps s t)
    (sub : ([.d, .engine, .query] : List Part) ⊆ ps) :
    Touches ps s (beginNext t) := by
  simp at sub; unfold beginNext; (try dsimp only); (repeat' split) <;> simp (maxDischargeDepth := 99) [h, sub]

@[simp] theorem touches_chooseAndBegin {ps : List Part} {s t : State} (h : Touches ps s t)
    (sub : ([.d, .engine, .query] : List Part) ⊆ ps) :
    Touches ps s (chooseAndBegin t) := by
  simp at sub; unfold chooseAndBegin; (try dsimp only); (repeat' split) <;> simp (maxDischargeDepth := 99) [h, sub]

@[simp] theorem touches_frameReady {ps : List Part} {s t : State} (h : Touches ps s t)
    (sub : ([.d, .shown, .incoming, .receiver, .engine, .query, .drift, .level, .causes] : List Part) ⊆ ps) :
    Touches ps s (frameReady t) := by
  simp at sub; unfold frameReady; (try dsimp only); (repeat' split) <;> simp (maxDischargeDepth := 99) [h, sub]

@[simp] theorem touches_receiveClose {ps : List Part} {s t : State} (m : W16) (h : Touches ps s t)
    (sub : ([.d, .selector, .shown, .incoming, .receiver, .engine, .query, .drift, .level, .causes] : List Part) ⊆ ps) :
    Touches ps s (receiveClose m t) := by
  simp at sub; unfold receiveClose; (try dsimp only); (repeat' split) <;> simp (maxDischargeDepth := 99) [h, sub]

@[simp] theorem touches_enterDownD {ps : List Part} {s t : State} (h : Touches ps s t)
    (sub : ([.d, .tiles, .query, .causes] : List Part) ⊆ ps) :
    Touches ps s (enterDownD t) := by
  simp at sub; unfold enterDownD; (try dsimp only); (repeat' split) <;> simp (maxDischargeDepth := 99) [h, sub]

@[simp] theorem touches_crcFailedD {ps : List Part} {s t : State} (h : Touches ps s t)
    (sub : ([.d, .tiles, .query, .causes] : List Part) ⊆ ps) :
    Touches ps s (crcFailedD t) := by
  simp at sub; unfold crcFailedD; (try dsimp only); (repeat' split) <;> simp (maxDischargeDepth := 99) [h, sub]

@[simp] theorem touches_crcFailed {ps : List Part} {s t : State} (p : Port) (h : Touches ps s t)
    (sub : ([.up .ua, .up .ub, .d, .selector, .incoming, .receiver, .tiles, .query, .load, .flags, .holder, .restart, .waiting, .causes] : List Part) ⊆ ps) :
    Touches ps s (crcFailed p t) := by
  simp at sub; unfold crcFailed; rcases p with (_ | _) | _ <;> simp (maxDischargeDepth := 99) [h, sub]

@[simp] theorem touches_portDown {ps : List Part} {s t : State} (p : Port) (h : Touches ps s t)
    (sub : ([.up .ua, .up .ub, .d, .selector, .incoming, .receiver, .tiles, .query, .load, .flags, .holder, .restart, .waiting, .causes] : List Part) ⊆ ps) :
    Touches ps s (portDown p t) := by
  simp at sub; unfold portDown; rcases p with (_ | _) | _ <;> simp (maxDischargeDepth := 99) [h, sub]

@[simp] theorem touches_countGoodD {ps : List Part} {s t : State} (h : Touches ps s t)
    (sub : ([.d, .engine, .tiles, .query] : List Part) ⊆ ps) :
    Touches ps s (countGoodD t) := by
  simp at sub; unfold countGoodD; (try dsimp only); (repeat' split) <;> simp (maxDischargeDepth := 99) [h, sub]

@[simp] theorem touches_acceptReading {ps : List Part} {s t : State}
    (k : SlotId) (short temperature : W16) (hours : BitVec 24) (h : Touches ps s t)
    (sub : ([.tiles, .query, .drift, .causes] : List Part) ⊆ ps) :
    Touches ps s (acceptReading k short temperature hours t) := by
  simp at sub; unfold acceptReading; (try dsimp only); (repeat' split) <;> simp (maxDischargeDepth := 99) [h, sub]

@[simp] theorem touches_takeIdent {ps : List Part} {s t : State}
    (tag : W16) (slot : Byte) (f : TileFacts) (h : Touches ps s t)
    (sub : ([.d, .engine, .tiles, .query, .drift, .causes] : List Part) ⊆ ps) :
    Touches ps s (takeIdent tag slot f t) := by
  simp at sub; unfold takeIdent; (try dsimp only); (repeat' split) <;> simp (maxDischargeDepth := 99) [h, sub]

@[simp] theorem touches_takeSenseReply {ps : List Part} {s t : State}
    (tag : W16) (slot : Byte) (short temperature : W16) (hours : BitVec 24) (h : Touches ps s t)
    (sub : ([.d, .engine, .tiles, .query, .drift, .causes] : List Part) ⊆ ps) :
    Touches ps s (takeSenseReply tag slot short temperature hours t) := by
  simp at sub; unfold takeSenseReply; (try dsimp only); (repeat' split) <;> simp (maxDischargeDepth := 99) [h, sub]

@[simp] theorem touches_fixSent {ps : List Part} {s t : State} (h : Touches ps s t)
    (sub : ([.query] : List Part) ⊆ ps) :
    Touches ps s (fixSent t) := by
  simp at sub; unfold fixSent; (try dsimp only); (repeat' split) <;> simp (maxDischargeDepth := 99) [h, sub]

@[simp] theorem touches_txDone {ps : List Part} {s t : State} (h : Touches ps s t)
    (sub : ([.d, .engine, .query] : List Part) ⊆ ps) :
    Touches ps s (txDone t) := by
  simp at sub; unfold txDone; (try dsimp only); (repeat' split) <;> simp (maxDischargeDepth := 99) [h, sub]

@[simp] theorem touches_completeCount {ps : List Part} {s t : State} (sc : Scan) (k : SlotId) (h : Touches ps s t)
    (sub : ([.counts, .causes] : List Part) ⊆ ps) :
    Touches ps s (completeCount sc k t) := by
  simp at sub; unfold completeCount; (try dsimp only); (repeat' split) <;> simp (maxDischargeDepth := 99) [h, sub]

@[simp] theorem touches_completeCounts {ps : List Part} {s t : State} (h : Touches ps s t)
    (sub : ([.counts, .causes] : List Part) ⊆ ps) :
    Touches ps s (completeCounts t) := by
  simp at sub; unfold completeCounts
  split
  · exact touches_forSlots (by intro k s t h; simp (maxDischargeDepth := 99) [h, sub]) h
  · exact h

@[simp] theorem touches_countScanEnd {ps : List Part} {s t : State} (h : Touches ps s t)
    (sub : ([.query] : List Part) ⊆ ps) :
    Touches ps s (countScanEnd t) := by
  simp at sub; unfold countScanEnd; (try dsimp only); (repeat' split) <;> simp (maxDischargeDepth := 99) [h, sub]

@[simp] theorem touches_afterScan {ps : List Part} {s t : State} (h : Touches ps s t)
    (sub : ([.shown, .incoming, .receiver, .engine, .drift, .level, .causes] : List Part) ⊆ ps) :
    Touches ps s (afterScan t) := by
  simp at sub; unfold afterScan; (try dsimp only); (repeat' split) <;> simp (maxDischargeDepth := 99) [h, sub]

@[simp] theorem touches_takeDeferredBlanks {ps : List Part} {s t : State} (h : Touches ps s t)
    (sub : ([.shown, .incoming, .receiver, .engine, .drift, .level, .causes] : List Part) ⊆ ps) :
    Touches ps s (takeDeferredBlanks t) := by
  simp at sub; unfold takeDeferredBlanks; (try dsimp only); (repeat' split) <;> simp (maxDischargeDepth := 99) [h, sub]

@[simp] theorem touches_markScanEnded {ps : List Part} {s t : State} (h : Touches ps s t)
    (sub : ([.restart] : List Part) ⊆ ps) :
    Touches ps s (markScanEnded t) := by
  simp at sub; unfold markScanEnded; (try dsimp only); (repeat' split) <;> simp (maxDischargeDepth := 99) [h, sub]

@[simp] theorem touches_endScan {ps : List Part} {s t : State} (h : Touches ps s t)
    (sub : ([.d, .shown, .incoming, .receiver, .engine, .counts, .query, .drift, .level, .restart, .causes] : List Part) ⊆ ps) :
    Touches ps s (endScan t) := by
  simp at sub; unfold endScan; (try dsimp only); (repeat' split) <;> simp (maxDischargeDepth := 99) [h, sub]

@[simp] theorem touches_assertBlank {ps : List Part} {s t : State} (h : Touches ps s t)
    (sub : ([.d, .shown, .incoming, .receiver, .engine, .query, .drift, .level, .restart, .causes] : List Part) ⊆ ps) :
    Touches ps s (assertBlank t) := by
  simp at sub; unfold assertBlank; (try dsimp only); (repeat' split) <;> simp (maxDischargeDepth := 99) [h, sub]

@[simp] theorem touches_repeatLimit {ps : List Part} {s t : State} (h : Touches ps s t)
    (sub : ([.d, .shown, .incoming, .receiver, .engine, .query, .drift, .level, .causes] : List Part) ⊆ ps) :
    Touches ps s (repeatLimit t) := by
  simp at sub; unfold repeatLimit; (try dsimp only); (repeat' split) <;> simp (maxDischargeDepth := 99) [h, sub]

@[simp] theorem touches_probeTimedOut {ps : List Part} {s t : State} (k : SlotId) (sent : Nat) (h : Touches ps s t)
    (sub : ([.tiles] : List Part) ⊆ ps) :
    Touches ps s (probeTimedOut k sent t) := by
  simp at sub; unfold probeTimedOut; (try dsimp only); (repeat' split) <;> simp (maxDischargeDepth := 99) [h, sub]

@[simp] theorem touches_senseTimedOut {ps : List Part} {s t : State} (k : SlotId) (h : Touches ps s t)
    (sub : ([.tiles, .query, .drift, .causes] : List Part) ⊆ ps) :
    Touches ps s (senseTimedOut k t) := by
  simp at sub; unfold senseTimedOut; (try dsimp only); (repeat' split) <;> simp (maxDischargeDepth := 99) [h, sub]

@[simp] theorem touches_queryLimit {ps : List Part} {s t : State} (kind : QueryKind) (h : Touches ps s t)
    (sub : ([.d, .engine, .tiles, .query, .drift, .causes] : List Part) ⊆ ps) :
    Touches ps s (queryLimit kind t) := by
  simp at sub; unfold queryLimit; (try dsimp only); (repeat' split) <;> simp (maxDischargeDepth := 99) [h, sub]

@[simp] theorem touches_probeReached {ps : List Part} {s t : State} (k : SlotId) (h : Touches ps s t)
    (sub : ([.d, .engine, .query] : List Part) ⊆ ps) :
    Touches ps s (probeReached k t) := by
  simp at sub; unfold probeReached; (try dsimp only); (repeat' split) <;> simp (maxDischargeDepth := 99) [h, sub]

@[simp] theorem touches_probesReached {ps : List Part} {s t : State} (h : Touches ps s t)
    (sub : ([.d, .engine, .query] : List Part) ⊆ ps) :
    Touches ps s (probesReached t) := by
  simp at sub; unfold probesReached; (try dsimp only); (repeat' split) <;> simp (maxDischargeDepth := 99) [h, sub]

@[simp] theorem touches_resetImages {ps : List Part} {s t : State} (k : SlotId) (h : Touches ps s t)
    (sub : ([.shown, .incoming] : List Part) ⊆ ps) :
    Touches ps s (resetImages k t) := by
  simp at sub; unfold resetImages; (try dsimp only); (repeat' split) <;> simp (maxDischargeDepth := 99) [h, sub]

@[simp] theorem touches_planPresence {ps : List Part} {s t : State} (k : SlotId) (p : Plan) (h : Touches ps s t)
    (sub : ([.tiles, .query, .drift, .causes] : List Part) ⊆ ps) :
    Touches ps s (planPresence k p t) := by
  simp at sub; unfold planPresence; (try dsimp only); (repeat' split) <;> simp (maxDischargeDepth := 99) [h, sub]

@[simp] theorem touches_raiseMirrors {ps : List Part} {s t : State} (k : SlotId) (h : Touches ps s t)
    (sub : ([.causes] : List Part) ⊆ ps) :
    Touches ps s (raiseMirrors k t) := by
  simp at sub; unfold raiseMirrors
  exact touches_forSlots (by intro k s t h; (repeat' split) <;> simp (maxDischargeDepth := 99) [h, sub]) h

@[simp] theorem touches_acceptPlan {ps : List Part} {s t : State} (k : SlotId) (p : Plan) (h : Touches ps s t)
    (sub : ([.d, .plans, .shown, .incoming, .engine, .tiles, .query, .drift, .causes] : List Part) ⊆ ps) :
    Touches ps s (acceptPlan k p t) := by
  simp at sub; unfold acceptPlan; (try dsimp only); (repeat' split) <;> simp (maxDischargeDepth := 99) [h, sub]

@[simp] theorem touches_writePlanBody {ps : List Part} {s t : State} (slot : Byte) (e : RawPlan) (h : Touches ps s t)
    (sub : ([.d, .plans, .shown, .incoming, .engine, .tiles, .query, .drift, .causes] : List Part) ⊆ ps) :
    Touches ps s (writePlanBody slot e t).1 := by
  simp at sub; unfold writePlanBody; (try dsimp only); (repeat' split) <;> simp (maxDischargeDepth := 99) [h, sub]

@[simp] theorem touches_writeBandBody {ps : List Part} {s t : State}
    (slot band : Byte) (e : RawBand) (h : Touches ps s t)
    (sub : ([.bands] : List Part) ⊆ ps) :
    Touches ps s (writeBandBody slot band e t).1 := by
  simp at sub; unfold writeBandBody; (try dsimp only); (repeat' split) <;> simp (maxDischargeDepth := 99) [h, sub]

@[simp] theorem touches_computeUnknownTargets {ps : List Part} {s t : State} (h : Touches ps s t)
    (sub : ([.drift, .causes] : List Part) ⊆ ps) :
    Touches ps s (computeUnknownTargets t) := by
  simp at sub; unfold computeUnknownTargets
  exact touches_forSlots (by intro k s t h; (repeat' split) <;> simp (maxDischargeDepth := 99) [h, sub]) h

@[simp] theorem touches_settingEffect {ps : List Part} {s t : State} (n : SettingId) (h : Touches ps s t)
    (sub : ([.up .ua, .up .ub, .d, .selector, .shown, .incoming, .receiver, .engine, .tiles, .query, .drift, .level, .causes] : List Part) ⊆ ps) :
    Touches ps s (settingEffect n t) := by
  simp at sub; unfold settingEffect; (try dsimp only); (repeat' split) <;> simp (maxDischargeDepth := 99) [h, sub]

@[simp] theorem touches_storeSetting {ps : List Part} {s t : State} (n : SettingId) (v : Int) (h : Touches ps s t)
    (sub : ([.up .ua, .up .ub, .d, .selector, .shown, .incoming, .receiver, .engine, .tiles, .query, .drift, .level, .settings, .causes] : List Part) ⊆ ps) :
    Touches ps s (storeSetting n v t) := by
  simp at sub; unfold storeSetting; (try dsimp only); (repeat' split) <;> simp (maxDischargeDepth := 99) [h, sub]

@[simp] theorem touches_writeSettingBody {ps : List Part} {s t : State} (n : Byte) (v : W32) (h : Touches ps s t)
    (sub : ([.up .ua, .up .ub, .d, .selector, .shown, .incoming, .receiver, .engine, .tiles, .query, .drift, .level, .settings, .causes] : List Part) ⊆ ps) :
    Touches ps s (writeSettingBody n v t).1 := by
  simp at sub; unfold writeSettingBody; (try dsimp only); (repeat' split) <;> simp (maxDischargeDepth := 99) [h, sub]

@[simp] theorem touches_libOpenBody {ps : List Part} {s t : State} (p : Up) (id : W64) (h : Touches ps s t)
    (sub : ([.load] : List Part) ⊆ ps) :
    Touches ps s (libOpenBody p id t).1 := by
  simp at sub; unfold libOpenBody; (try dsimp only); (repeat' split) <;> simp (maxDischargeDepth := 99) [h, sub]

@[simp] theorem touches_libPutBody {ps : List Part} {s t : State}
    (p : Up) (pointer : W16) (words : List W16) (h : Touches ps s t)
    (sub : ([.load] : List Part) ⊆ ps) :
    Touches ps s (libPutBody p pointer words t).1 := by
  simp at sub; unfold libPutBody; (try dsimp only); (repeat' split) <;> simp (maxDischargeDepth := 99) [h, sub]

@[simp] theorem touches_installLoad {ps : List Part} {s t : State} (l : Load) (h : Touches ps s t)
    (sub : ([.tiles, .records, .load, .drift, .causes] : List Part) ⊆ ps) :
    Touches ps s (installLoad l t) := by
  simp at sub; unfold installLoad; (try dsimp only); (repeat' split) <;> simp (maxDischargeDepth := 99) [h, sub]

@[simp] theorem touches_libCloseBody {ps : List Part} {s t : State} (p : Up) (h : Touches ps s t)
    (sub : ([.tiles, .records, .load, .drift, .causes] : List Part) ⊆ ps) :
    Touches ps s (libCloseBody p t).1 := by
  simp at sub; unfold libCloseBody; (try dsimp only); (repeat' split) <;> simp (maxDischargeDepth := 99) [h, sub]

@[simp] theorem touches_libAbortBody {ps : List Part} {s t : State} (p : Up) (h : Touches ps s t)
    (sub : ([.load] : List Part) ⊆ ps) :
    Touches ps s (libAbortBody p t).1 := by
  simp at sub; unfold libAbortBody; (try dsimp only); (repeat' split) <;> simp (maxDischargeDepth := 99) [h, sub]

@[simp] theorem touches_libDeleteBody {ps : List Part} {s t : State} (id : W64) (h : Touches ps s t)
    (sub : ([.tiles, .records, .drift, .causes] : List Part) ⊆ ps) :
    Touches ps s (libDeleteBody id t).1 := by
  simp at sub; unfold libDeleteBody; (try dsimp only); (repeat' split) <;> simp (maxDischargeDepth := 99) [h, sub]

@[simp] theorem touches_setLevelBody {ps : List Part} {s t : State} (v : W32) (h : Touches ps s t)
    (sub : ([.level] : List Part) ⊆ ps) :
    Touches ps s (setLevelBody v t).1 := by
  simp at sub; unfold setLevelBody; (try dsimp only); (repeat' split) <;> simp (maxDischargeDepth := 99) [h, sub]

@[simp] theorem touches_changeFlag {ps : List Part} {s t : State} (k : Fin 16) (v : Bool) (h : Touches ps s t)
    (sub : ([.flags] : List Part) ⊆ ps) :
    Touches ps s (changeFlag k v t).1 := by
  simp at sub; unfold changeFlag; (try dsimp only); (repeat' split) <;> simp (maxDischargeDepth := 99) [h, sub]

@[simp] theorem touches_setEditFlag {ps : List Part} {s t : State} (p : Up) (h : Touches ps s t)
    (sub : ([.flags, .holder] : List Part) ⊆ ps) :
    Touches ps s (setEditFlag p t).1 := by
  simp at sub; unfold setEditFlag; (try dsimp only); (repeat' split) <;> simp (maxDischargeDepth := 99) [h, sub]

@[simp] theorem touches_clearEditFlag {ps : List Part} {s t : State} (p : Up) (h : Touches ps s t)
    (sub : ([.flags, .holder] : List Part) ⊆ ps) :
    Touches ps s (clearEditFlag p t).1 := by
  simp at sub; unfold clearEditFlag; (try dsimp only); (repeat' split) <;> simp (maxDischargeDepth := 99) [h, sub]

@[simp] theorem touches_flagSetBody {ps : List Part} {s t : State} (p : Up) (flag : Byte) (h : Touches ps s t)
    (sub : ([.flags, .holder] : List Part) ⊆ ps) :
    Touches ps s (flagSetBody p flag t).1 := by
  simp at sub; unfold flagSetBody; (try dsimp only); (repeat' split) <;> simp (maxDischargeDepth := 99) [h, sub]

@[simp] theorem touches_flagClearBody {ps : List Part} {s t : State} (p : Up) (flag : Byte) (h : Touches ps s t)
    (sub : ([.flags, .holder] : List Part) ⊆ ps) :
    Touches ps s (flagClearBody p flag t).1 := by
  simp at sub; unfold flagClearBody; (try dsimp only); (repeat' split) <;> simp (maxDischargeDepth := 99) [h, sub]

@[simp] theorem touches_flagChangeBody {ps : List Part} {s t : State} (p : Up) (flag : Byte) (h : Touches ps s t)
    (sub : ([.flags, .holder] : List Part) ⊆ ps) :
    Touches ps s (flagChangeBody p flag t).1 := by
  simp at sub; unfold flagChangeBody; (try dsimp only); (repeat' split) <;> simp (maxDischargeDepth := 99) [h, sub]

@[simp] theorem touches_clearNamed {ps : List Part} {s t : State} (set : W16) (h : Touches ps s t)
    (sub : ([.causes] : List Part) ⊆ ps) :
    Touches ps s (clearNamed set t) := by
  simp at sub; unfold clearNamed; (try dsimp only); (repeat' split) <;> simp (maxDischargeDepth := 99) [h, sub]

@[simp] theorem touches_clearPeaks {ps : List Part} {s t : State} (h : Touches ps s t)
    (sub : ([.counts] : List Part) ⊆ ps) :
    Touches ps s (clearPeaks t) := by
  simp at sub; unfold clearPeaks; (try dsimp only); (repeat' split) <;> simp (maxDischargeDepth := 99) [h, sub]

@[simp] theorem touches_clearCausesBody {ps : List Part} {s t : State} (set : W16) (h : Touches ps s t)
    (sub : ([.counts, .causes] : List Part) ⊆ ps) :
    Touches ps s (clearCausesBody set t).1 := by
  simp at sub; unfold clearCausesBody; (try dsimp only); (repeat' split) <;> simp (maxDischargeDepth := 99) [h, sub]

@[simp] theorem touches_writeCauseControlBody {ps : List Part} {s t : State}
    (cause enable level : Byte) (h : Touches ps s t)
    (sub : ([.causes] : List Part) ⊆ ps) :
    Touches ps s (writeCauseControlBody cause enable level t).1 := by
  simp at sub; unfold writeCauseControlBody; (try dsimp only); (repeat' split) <;> simp (maxDischargeDepth := 99) [h, sub]

@[simp] theorem touches_probeNamed {ps : List Part} {s t : State} (k : SlotId) (h : Touches ps s t)
    (sub : ([.tiles, .query] : List Part) ⊆ ps) :
    Touches ps s (probeNamed k t) := by
  simp at sub; unfold probeNamed; (try dsimp only); (repeat' split) <;> simp (maxDischargeDepth := 99) [h, sub]

@[simp] theorem touches_probeSlotsBody {ps : List Part} {s t : State} (set : W16) (h : Touches ps s t)
    (sub : ([.d, .engine, .tiles, .query] : List Part) ⊆ ps) :
    Touches ps s (probeSlotsBody set t).1 := by
  simp at sub; unfold probeSlotsBody
  refine touches_chooseAndBegin (touches_forSlots ?_ h) (by simp [sub])
  intro k s t h; (repeat' split) <;> simp (maxDischargeDepth := 99) [h, sub]

@[simp] theorem touches_senseSlotBody {ps : List Part} {s t : State} (slot : Byte) (h : Touches ps s t)
    (sub : ([.d, .engine, .query] : List Part) ⊆ ps) :
    Touches ps s (senseSlotBody slot t).1 := by
  simp at sub; unfold senseSlotBody; (try dsimp only); (repeat' split) <;> simp (maxDischargeDepth := 99) [h, sub]

@[simp] theorem touches_restartFrames {ps : List Part} {s t : State} (h : Touches ps s t)
    (sub : ([.shown, .incoming, .receiver] : List Part) ⊆ ps) :
    Touches ps s (restartFrames t) := by
  simp at sub; unfold restartFrames; (try dsimp only); (repeat' split) <;> simp (maxDischargeDepth := 99) [h, sub]

@[simp] theorem touches_restartEngine {ps : List Part} {s t : State} (h : Touches ps s t)
    (sub : ([.engine, .counts] : List Part) ⊆ ps) :
    Touches ps s (restartEngine t) := by
  simp at sub; unfold restartEngine; (try dsimp only); (repeat' split) <;> simp (maxDischargeDepth := 99) [h, sub]

@[simp] theorem touches_restartChain {ps : List Part} {s t : State} (h : Touches ps s t)
    (sub : ([.tiles, .query] : List Part) ⊆ ps) :
    Touches ps s (restartChain t) := by
  simp at sub; unfold restartChain; (try dsimp only); (repeat' split) <;> simp (maxDischargeDepth := 99) [h, sub]

@[simp] theorem touches_restartDrift {ps : List Part} {s t : State} (h : Touches ps s t)
    (sub : ([.drift] : List Part) ⊆ ps) :
    Touches ps s (restartDrift t) := by
  simp at sub; unfold restartDrift; (try dsimp only); (repeat' split) <;> simp (maxDischargeDepth := 99) [h, sub]

@[simp] theorem touches_restartBlocks {ps : List Part} {s t : State} (h : Touches ps s t)
    (sub : ([.shown, .incoming, .receiver, .engine, .counts, .tiles, .query, .load, .drift] : List Part) ⊆ ps) :
    Touches ps s (restartBlocks t) := by
  simp at sub; unfold restartBlocks; (try dsimp only); (repeat' split) <;> simp (maxDischargeDepth := 99) [h, sub]

@[simp] theorem touches_clearAllCauses {ps : List Part} {s t : State} (h : Touches ps s t)
    (sub : ([.causes] : List Part) ⊆ ps) :
    Touches ps s (clearAllCauses t) := by
  simp at sub; unfold clearAllCauses; (try dsimp only); (repeat' split) <;> simp (maxDischargeDepth := 99) [h, sub]

@[simp] theorem touches_restartPart {ps : List Part} {s t : State} (h : Touches ps s t)
    (sub : ([.d, .selector, .shown, .incoming, .receiver, .engine, .counts, .tiles, .query, .load, .drift, .causes] : List Part) ⊆ ps) :
    Touches ps s (restartPart t) := by
  simp at sub; unfold restartPart; (try dsimp only); (repeat' split) <;> simp (maxDischargeDepth := 99) [h, sub]

@[simp] theorem touches_restartBody {ps : List Part} {s t : State} (p : Up) (tag : W16) (h : Touches ps s t)
    (sub : ([.d, .selector, .shown, .incoming, .receiver, .engine, .counts, .tiles, .query, .load, .drift, .restart, .causes] : List Part) ⊆ ps) :
    Touches ps s (restartBody p tag t).1 := by
  simp at sub; unfold restartBody; (try dsimp only); (repeat' split) <;> simp (maxDischargeDepth := 99) [h, sub]

@[simp] theorem touches_advance {ps : List Part} {s t : State} (h : Touches ps s t)
    (sub : ([.clock, .noticePlaced] : List Part) ⊆ ps) :
    Touches ps s (advance t) := by
  simp at sub; unfold advance; (try dsimp only); (repeat' split) <;> simp (maxDischargeDepth := 99) [h, sub]

end Sys2Proof.Machine
end

