-- ==== Sys2Proof/Laws/Requests.lean ====
section
/-! SUPPORT. The requests as one: every request command arrives, is judged and is served alike, so what holds of its
body holds of the command. With it, what each command may change (`exec_touches`). -/

namespace Sys2Proof.Machine

set_option linter.unusedTactic false
set_option linter.unnecessarySeqFocus false
set_option linter.unusedSimpArgs false

/-- A request command is the arrival of its request. -/
theorem exec_request {i : Instr} {r : Request} (h : requestOf i = some r) (s : State) :
    exec i s = .next (arriveRequest i r s) := by
  cases i <;> simp only [requestOf, Option.some.injEq, reduceCtorEq] at h <;> subst h <;> rfl

/-- A request's port is that of its command. -/
theorem requestOf_port {i : Instr} {r : Request} (h : requestOf i = some r) : Instr.requestPort i = some r.port := by
  cases i <;> simp only [requestOf, Option.some.injEq, reduceCtorEq] at h <;> subst h <;>
    simp only [Instr.requestPort, Option.some.injEq] <;> (try rfl)
  rename_i p tag pointer words
  unfold libPutReq
  split <;> rfl

/-! ## Principles: what an operation keeps, its callers keep -/

/-- What counting a good cell and acting on it keep, a cell on an upstream port keeps. -/
theorem upCell_keeps {P : State → Prop} {p : Up} {act : State → State} (hc : ∀ s, P s → P (countGoodUp p s))
    (ha : ∀ s, P s → P (act s)) {s : State} (h : P s) : P (upCell p act s) := by
  unfold upCell
  (repeat' split)
  · exact h
  · exact ha _ (hc _ h)
  · exact hc _ h

/-- What counting a good cell and acting on it keep, a cell on port D keeps. -/
theorem dCell_keeps {P : State → Prop} {act : State → State} (hc : ∀ s, P s → P (countGoodD s))
    (ha : ∀ s, P s → P (act s)) {s : State} (h : P s) : P (dCell act s) := by
  unfold dCell
  (repeat' split)
  · exact h
  · exact ha _ (hc _ h)
  · exact hc _ h

/-- A request is executed with its reply, or without one. -/
theorem serve_cases (r : Request) (s : State) :
    (∃ a, (r.body s).2 = some a ∧ serve r s = (r.body s).1.enqueue r.port (replyCell r.tag r.code a)) ∨
    ((r.body s).2 = none ∧ serve r s = (r.body s).1) := by
  unfold serve
  generalize r.body s = x
  obtain ⟨s1, a⟩ := x
  cases a with
  | some a => exact Or.inl ⟨a, rfl, rfl⟩
  | none => exact Or.inr ⟨rfl, rfl⟩

/-- What every slot's operation keeps, the operation on all slots keeps. -/
theorem forSlots_keeps {P : State → Prop} {f : SlotId → State → State} (hf : ∀ k s, P s → P (f k s)) {s : State}
    (h : P s) : P (forSlots f s) := by
  unfold forSlots
  generalize allSlots = l
  induction l generalizing s with
  | nil => exact h
  | cons k l ih => exact ih (hf k s h)

/-! ## What a command touches -/

/-- A cell on an upstream port. -/
theorem touches_upCell {ps : List Part} {s t : State} {p : Up} {act : State → State}
    (ha : ∀ t, Touches ps s t → Touches ps s (act t)) (h : Touches ps s t)
    (sub : ([.up p, .selector, .incoming, .receiver, .causes] : List Part) ⊆ ps) :
    Touches ps s (upCell p act t) :=
  upCell_keeps (P := Touches ps s) (fun _ h => touches_countGoodUp p h sub) ha h

/-- A cell on port D. -/
theorem touches_dCell {ps : List Part} {s t : State} {act : State → State}
    (ha : ∀ t, Touches ps s t → Touches ps s (act t)) (h : Touches ps s t)
    (sub : ([.d, .engine, .tiles, .query] : List Part) ⊆ ps) : Touches ps s (dCell act t) :=
  dCell_keeps (P := Touches ps s) (fun _ h => touches_countGoodD h sub) ha h

/-- A request taken. -/
theorem touches_takeRequest {ps : List Part} {s t : State} {i : Instr} {r : Request}
    (hb : ∀ t, Touches ps s t → Touches ps s (r.body t).1) (h : Touches ps s t)
    (sub : ([.up r.port, .waiting] : List Part) ⊆ ps) : Touches ps s (takeRequest i r t) := by
  simp at sub
  unfold takeRequest holdRequest
  (repeat' split)
  · simp [h, sub]
  · simp [h, sub]
  · obtain ⟨a, _, e⟩ | ⟨_, e⟩ := serve_cases r t <;> rw [e] <;> simp [hb t h, sub]
  · simp [h, sub]

/-- The parts that some request may touch beside its port. -/
def requestParts : List Part :=
  [.d, .selector, .plans, .shown, .incoming, .receiver, .engine, .counts, .tiles, .query, .records, .load, .bands,
   .drift, .level, .settings, .flags, .holder, .restart, .causes]

/-- The parts that the execution of a request touches, its port among them only for the settings of the link. -/
def bodyParts : Instr → List Part
  | .writeSetting _ _ _ _ =>
      [.up .ua, .up .ub, .d, .selector, .shown, .incoming, .receiver, .engine, .tiles, .query, .drift, .level,
       .settings, .causes]
  | .writePlan _ _ _ _ => [.d, .plans, .shown, .incoming, .engine, .tiles, .query, .drift, .causes]
  | .writeBand _ _ _ _ _ => [.bands]
  | .libOpen _ _ _ => [.load]
  | .libPut _ _ _ _ => [.load]
  | .libClose _ _ => [.tiles, .records, .load, .drift, .causes]
  | .libAbort _ _ => [.load]
  | .libDelete _ _ _ => [.tiles, .records, .drift, .causes]
  | .setLevel _ _ _ => [.level]
  | .flagSet _ _ _ => [.flags, .holder]
  | .flagClear _ _ _ => [.flags, .holder]
  | .flagChange _ _ _ => [.flags, .holder]
  | .clearCauses _ _ _ => [.counts, .causes]
  | .writeCauseControl _ _ _ _ _ => [.causes]
  | .probeSlots _ _ _ => [.d, .engine, .tiles, .query]
  | .senseSlot _ _ _ => [.d, .engine, .query]
  | .restart _ _ =>
      [.d, .selector, .shown, .incoming, .receiver, .engine, .counts, .tiles, .query, .load, .drift, .restart, .causes]
  | _ => []

/-- The execution of a request touches its parts alone. -/
theorem touches_body {ps : List Part} {s t : State} {i : Instr} {r : Request} (hr : requestOf i = some r)
    (h : Touches ps s t) (sub : bodyParts i ⊆ ps) : Touches ps s (r.body t).1 := by
  cases i <;> simp only [requestOf, Option.some.injEq, reduceCtorEq] at hr <;> subst hr <;>
    (try simp [bodyParts] at sub) <;>
    simp only [readSettingReq, readPlanReq, readSlotReq, readBandReq, libReadReq, libListReq, readLevelReq,
      flagTestReq, readCausesReq, readPortsReq, unknownReq, writeSettingReq, writePlanReq, writeBandReq, libOpenReq,
      libPutReq, libCloseReq, libAbortReq, libDeleteReq, setLevelReq, flagSetReq, flagClearReq, flagChangeReq,
      clearCausesReq, writeCauseControlReq, probeSlotsReq, senseSlotReq, restartReq, readRequest, editRequest,
      flagRequest] <;>
    (repeat' split) <;> (try dsimp only) <;> (repeat' split) <;> simp (maxDischargeDepth := 99) [h, *]

theorem bodyParts_sub (i : Instr) : bodyParts i ⊆ .up .ua :: .up .ub :: requestParts := by
  cases i <;> simp [bodyParts, requestParts]

/-- The parts that an upstream port's entry to DOWN, or a failed cell, touches. -/
def downParts : Port → List Part
  | .up q => [.up q, .selector, .incoming, .receiver, .load, .flags, .holder, .restart, .waiting, .causes]
  | .d => [.d, .tiles, .query, .causes]

/-- The parts that counting a good cell touches. -/
def cellParts : Port → List Part
  | .up q => [.up q, .selector, .incoming, .receiver, .causes]
  | .d => [.d, .engine, .tiles, .query]

/-- The part that holds a receiver's line condition. -/
def lineParts : Port → List Part
  | .up q => [.up q]
  | .d => [.d]

/-- The parts that a command other than a request may touch. -/
def eventParts : Instr → List Part
  | .crcFailedCell p => downParts p
  | .lossOfSignal p _ => downParts p
  | .foreignCell p _ => cellParts p
  | .frameOpen p _ => [.up p, .selector, .incoming, .receiver, .causes]
  | .pixelRun p _ _ _ => [.up p, .selector, .incoming, .receiver, .causes]
  | .frameClose p _ =>
      [.up p, .selector, .shown, .incoming, .receiver, .engine, .drift, .level, .d, .query, .causes]
  | .trackerLimitExpiry p => [.up p]
  | .sourceLossTimeExpiry p => [.up p, .selector, .incoming, .receiver, .causes]
  | .frameOpenLimitExpiry => [.up .ua, .up .ub, .selector, .incoming, .receiver, .causes]
  | .ident _ _ _ _ _ _ _ => [.d, .engine, .tiles, .query, .drift, .causes]
  | .senseReply _ _ _ _ _ => [.d, .engine, .tiles, .query, .drift, .causes]
  | .tileAlert _ _ => [.up .ua, .up .ub, .d, .engine, .tiles, .query]
  | .returnCellSent p => [.up p]
  | .restartAtScanEnd => .up .ua :: .up .ub :: .waiting :: requestParts
  | .scanEnd =>
      [.shown, .incoming, .receiver, .engine, .drift, .level, .causes, .d, .query, .counts, .restart]
  | .tilePixelsSent => [.d, .engine, .query]
  | .repeatTimerExpiry => [.shown, .incoming, .receiver, .engine, .drift, .level, .causes, .d, .query]
  | .blanknAssertion => [.shown, .incoming, .receiver, .engine, .drift, .level, .causes, .d, .query, .restart]
  | .blanknDeassertion => [.engine]
  | .holdLimitExpiry => [.engine, .causes]
  | .probeSent => [.d, .engine, .query]
  | .senseRequestSent => [.d, .engine, .query]
  | .probeTimeout => [.d, .engine, .tiles, .query, .drift, .causes]
  | .senseTimeout => [.d, .engine, .tiles, .query, .drift, .causes]
  | .probeDue _ => [.d, .engine, .query]
  | .loadLimitExpiry => [.load, .causes]
  | .noticeOffer => [.up .ua, .up .ub, .causes, .noticePlaced]
  | .powerReset =>
      .up .ua :: .up .ub :: .clock :: .waiting :: .noticePlaced :: requestParts
  | .symbolsReturn p => lineParts p
  | .readSetting .. | .writeSetting .. | .readPlan .. | .writePlan .. | .readSlot .. | .readBand .. | .writeBand ..
  | .libOpen .. | .libPut .. | .libClose .. | .libAbort .. | .libDelete .. | .libRead .. | .libList ..
  | .setLevel .. | .readLevel .. | .flagTest .. | .flagSet .. | .flagClear .. | .flagChange .. | .readCauses ..
  | .clearCauses .. | .writeCauseControl .. | .probeSlots .. | .senseSlot .. | .readPorts .. | .restart ..
  | .unknownRequest .. => []

/-- What a command may touch. -/
def touchedParts (i : Instr) : List Part :=
  match Instr.requestPort i with
  | some p => [.up p, .selector, .incoming, .receiver, .causes, .waiting] ++ bodyParts i
  | none => eventParts i

/-- A request command touches its port, what a port's alignment touches, and what its body touches. -/
theorem touches_arriveRequest {i : Instr} {r : Request} (hr : requestOf i = some r) (s : State) :
    Touches ([.up r.port, .selector, .incoming, .receiver, .causes, .waiting] ++ bodyParts i) s (arriveRequest i r s) := by
  refine touches_upCell (fun t h => touches_takeRequest (fun t h => touches_body hr h ?_) h ?_) (by simp) ?_
  · exact List.subset_append_right _ _
  · simp
  · simp

/-- A request that waited touches nothing of the interface, the clock or the arbiter. -/
theorem touches_takeWaiting {ps : List Part} {s t : State} (i : Instr) (h : Touches ps s t)
    (sub : .up .ua :: .up .ub :: .waiting :: requestParts ⊆ ps) : Touches ps s (takeWaiting t i) := by
  unfold takeWaiting
  split
  · next r hr =>
    refine touches_takeRequest (fun t h => touches_body hr h (List.Subset.trans (bodyParts_sub i) ?_)) h ?_
    · intro f hf; exact sub (by simp only [List.mem_cons] at hf ⊢; tauto)
    · intro f hf
      simp only [List.mem_cons, List.not_mem_nil, or_false] at hf
      rcases hf with rfl | rfl
      · cases r.port <;> exact sub (by simp)
      · exact sub (by simp)
  · exact h

theorem touches_deferredRestart {ps : List Part} {s t : State} (h : Touches ps s t)
    (sub : .up .ua :: .up .ub :: .waiting :: requestParts ⊆ ps) : Touches ps s (deferredRestart t) := by
  have sub' := sub
  simp only [requestParts, List.cons_subset, List.nil_subset, and_true] at sub
  unfold deferredRestart
  (repeat' split)
  · next w _ _ =>
    dsimp only
    generalize t.waiting = l
    have hp : Part.up w.port ∈ ps := by cases w.port <;> simp [sub]
    have h0 : Touches ps s (beginNext (blankRestarts w.blanks
        (replyRestart w (restartPart ((t.withRestart none).withWaiting []))))) := by
      simp (maxDischargeDepth := 99) [h, sub, hp]
    revert h0
    generalize beginNext (blankRestarts w.blanks
        (replyRestart w (restartPart ((t.withRestart none).withWaiting [])))) = u
    intro h0
    induction l generalizing u with
    | nil => exact h0
    | cons i l ih => exact ih _ (touches_takeWaiting i h0 sub')
  · exact h
  · exact h

/-- A failed cell touches what its port's entry to DOWN touches. -/
theorem touches_crcFailedOn {ps : List Part} {s t : State} (p : Port) (h : Touches ps s t) (sub : downParts p ⊆ ps) :
    Touches ps s (crcFailed p t) := by
  cases p
  · exact touches_crcFailedUp _ h sub
  · exact touches_crcFailedD h sub

theorem touches_portDownOn {ps : List Part} {s t : State} (p : Port) (h : Touches ps s t) (sub : downParts p ⊆ ps) :
    Touches ps s (portDown p t) := by
  cases p
  · exact touches_enterDown _ h sub
  · exact touches_enterDownD h sub

theorem touches_setLostOn {ps : List Part} {s t : State} (p : Port) (x : Bool) (h : Touches ps s t)
    (sub : lineParts p ⊆ ps) : Touches ps s (setLost p x t) := by
  cases p <;> simp only [lineParts, List.cons_subset, List.nil_subset, and_true] at sub <;> simp [setLost, h, sub]

/-- What a command changes: the next state differs from the present one in the listed parts alone. -/
theorem exec_touches (i : Instr) (s : State) : ∃ t, exec i s = .next t ∧ Touches (touchedParts i) s t := by
  cases hr : requestOf i with
  | some r =>
    refine ⟨_, exec_request hr s, ?_⟩
    simpa only [touchedParts, requestOf_port hr] using touches_arriveRequest hr s
  | none =>
    cases i <;> simp only [requestOf, reduceCtorEq] at hr <;> refine ⟨_, rfl, ?_⟩ <;>
      simp only [touchedParts, Instr.requestPort, eventParts]
    case crcFailedCell p =>
      split
      · simp
      · exact touches_crcFailedOn p (by simp) (by simp)
    case lossOfSignal p b =>
      refine touches_portDownOn p (touches_setLostOn p true ?_ (by cases p <;> simp [downParts, lineParts])) (by simp)
      split
      · exact touches_crcFailedOn p (by simp) (by simp)
      · simp
    case foreignCell p c =>
      cases p
      · exact touches_upCell (fun t h => touches_countForeign _ h (by simp [cellParts])) (by simp) (by simp [cellParts])
      · exact touches_dCell (fun t h => touches_countStray h (by simp [cellParts])) (by simp) (by simp [cellParts])
    case frameOpen p n =>
      refine touches_upCell (fun t h => ?_) (by simp) (by simp)
      split
      · exact touches_receiveOpen n (touches_trackOpen p n h (by simp)) (by simp)
      · exact touches_trackOpen p n h (by simp)
    case pixelRun p l c px =>
      refine touches_upCell (fun t h => ?_) (by simp) (by simp)
      (repeat' split)
      · exact touches_countForeign p h (by simp)
      · exact touches_receiveRun _ _ _ h (by simp)
      · exact h
    case frameClose p n =>
      refine touches_upCell (fun t h => ?_) (by simp) (by simp)
      split
      · exact touches_receiveClose n (touches_trackClose p n h (by simp)) (by simp)
      · exact touches_trackClose p n h (by simp)
    case ident => exact touches_dCell (fun t h => touches_takeIdent _ _ _ h (by simp)) (by simp) (by simp)
    case senseReply => exact touches_dCell (fun t h => touches_takeSenseReply _ _ _ _ _ h (by simp)) (by simp) (by simp)
    case tileAlert =>
      exact touches_dCell (fun t h => touches_forwardAlert _ .ub (touches_forwardAlert _ .ua h (by simp)) (by simp))
        (by simp) (by simp)
    case restartAtScanEnd => exact touches_deferredRestart (by simp) (by simp)
    case powerReset =>
      intro f hf
      cases f <;> simp_all [requestParts, Part.same]
      rename_i p
      cases p <;> simp_all
    case symbolsReturn p => exact touches_setLostOn p false (by simp) (by simp)
    case trackerLimitExpiry p => exact touches_trackerLimit p (by simp) (by simp)
    case sourceLossTimeExpiry p => exact touches_sourceLoss p (by simp) (by simp)
    case frameOpenLimitExpiry => exact touches_receiverLimit (by simp) (by simp)
    case returnCellSent p => exact touches_withUp p _ (by simp) (by simp)
    case scanEnd => split; exacts [touches_endScan (by simp) (by simp), by simp]
    case tilePixelsSent =>
      split
      · exact touches_beginNext (touches_formIfNeeded (by simp) (by simp)) (by simp)
      · simp
    case repeatTimerExpiry => exact touches_repeatLimit (by simp) (by simp)
    case blanknAssertion => split; exacts [by simp, touches_assertBlank (by simp) (by simp)]
    case blanknDeassertion => exact touches_withEngine _ (by simp) (by simp)
    case holdLimitExpiry => exact touches_holdLimit (by simp) (by simp)
    case probeSent =>
      split
      · exact touches_txDone (touches_fixSent (by simp) (by simp)) (by simp)
      · simp
    case senseRequestSent =>
      split
      · exact touches_txDone (touches_fixSent (by simp) (by simp)) (by simp)
      · simp
    case probeTimeout => exact touches_queryLimit _ (by simp) (by simp)
    case senseTimeout => exact touches_queryLimit _ (by simp) (by simp)
    case probeDue k => exact touches_probeReached k (by simp) (by simp)
    case loadLimitExpiry => exact touches_loadLimit (by simp) (by simp)
    case noticeOffer => exact touches_noticeOffer (by simp) (by simp)

/-- A command leaves the queue of commands as it is. -/
theorem exec_pending (i : Instr) (s : State) : ∃ t, exec i s = .next t ∧ t.pending = s.pending := by
  obtain ⟨t, e, h⟩ := exec_touches i s
  refine ⟨t, e, h .pending ?_⟩
  cases i with
  | crcFailedCell p => cases p <;> simp [touchedParts, Instr.requestPort, eventParts, downParts]
  | lossOfSignal p => cases p <;> simp [touchedParts, Instr.requestPort, eventParts, downParts]
  | foreignCell p => cases p <;> simp [touchedParts, Instr.requestPort, eventParts, cellParts]
  | symbolsReturn p => cases p <;> simp [touchedParts, Instr.requestPort, eventParts, lineParts]
  | _ => simp [touchedParts, requestParts, Instr.requestPort, bodyParts, eventParts]

end Sys2Proof.Machine
end

