-- ==== Sys2Proof/Laws/Served.lean ====
section
/-! SUPPORT. What a cell does on a port that takes cells, and a request on a port that serves: the spec lemmas of `upCell`,
`dCell` and `arriveRequest`, in the words of Safety. -/

namespace Sys2Proof.Machine

/-- The record of the port that was heard, and of the other. -/
@[simp] theorem State.heard_up (s : State) (p q : Up) :
    (s.heard p).up q =
      if p = q then { s.up p with goodRun := min 8 ((s.up p).goodRun + 1), failedRun := 0 } else s.up q := by
  unfold State.heard; rw [State.withUp_up]

@[simp] theorem State.heard_fields (s : State) (p : Up) :
    (s.heard p).pending = s.pending ∧ (s.heard p).clock = s.clock ∧ (s.heard p).d = s.d ∧
    (s.heard p).selector = s.selector ∧ (s.heard p).plans = s.plans ∧ (s.heard p).shown = s.shown ∧
    (s.heard p).incoming = s.incoming ∧ (s.heard p).receiver = s.receiver ∧ (s.heard p).engine = s.engine ∧
    (s.heard p).counts = s.counts ∧ (s.heard p).tiles = s.tiles ∧ (s.heard p).query = s.query ∧
    (s.heard p).records = s.records ∧ (s.heard p).load = s.load ∧ (s.heard p).bands = s.bands ∧
    (s.heard p).drift = s.drift ∧ (s.heard p).level = s.level ∧ (s.heard p).settings = s.settings ∧
    (s.heard p).flags = s.flags ∧ (s.heard p).holder = s.holder ∧ (s.heard p).restart = s.restart ∧
    (s.heard p).waiting = s.waiting ∧ (s.heard p).causes = s.causes ∧ (s.heard p).noticePlaced = s.noticePlaced := by
  cases p <;> and_intros <;> rfl

/-- A good cell counted on a port that is not DOWN. -/
theorem countGoodUp_heard {s : State} {p : Up} (h : (s.up p).state ≠ .down) : countGoodUp p s = s.heard p := by
  simp only [countGoodUp, h, false_and, if_false, State.heard, Config.goodRunMax]

/-- A cell on an upstream port that takes cells is counted and then acted upon. -/
theorem upCell_listens {s : State} {p : Up} (act : State → State) (h : s.listens p) : upCell p act s = act (s.heard p) := by
  obtain ⟨h1, h2⟩ := h
  simp only [upCell, h1, State.takesCells, bne_iff_ne, ne_eq, h2, not_false_eq_true, if_true, Bool.false_eq_true, if_false,
    countGoodUp_heard h2]

/-- A cell on port D, ALIGNED with its signal present, is counted and then acted upon. -/
theorem dCell_listens {s : State} (act : State → State) (h : s.listensD) : dCell act s = act s.heardD := by
  obtain ⟨h1, h2⟩ := h
  simp [dCell, h1, h2, countGoodD, State.heardD, Config.goodRunMax]

/-- A request on a port that serves: its body runs on the state in which its cell has been counted, and the reply enters
the queue. -/
theorem exec_served {i : Instr} {r : Request} {s t : State} {p : Up} {a : Answer} (hr : requestOf i = some r)
    (hp : r.port = p) (h : s.serves p) (hb : r.body (s.heard p) = (t, some a)) :
    exec i s = .next (t.replied p r.tag r.code a.outcome a.data) := by
  obtain ⟨h1, h2, h3⟩ := h
  subst hp
  have hq : ((s.heard r.port).up r.port).queue = (s.up r.port).queue := by simp
  rw [exec_request hr, arriveRequest, upCell_listens _ h1]
  simp only [takeRequest, State.heard_fields, h3, Option.isSome_none, Bool.false_eq_true, if_false, State.hasRoom, hq,
    Config.queuePlaces, h2, decide_true, if_true, serve, hb]
  rfl

/-- A request on a port that serves, its reply left to a later scan end. -/
theorem exec_served_silent {i : Instr} {r : Request} {s t : State} {p : Up} (hr : requestOf i = some r)
    (hp : r.port = p) (h : s.serves p) (hb : r.body (s.heard p) = (t, none)) : exec i s = .next t := by
  obtain ⟨h1, h2, h3⟩ := h
  subst hp
  have hq : ((s.heard r.port).up r.port).queue = (s.up r.port).queue := by simp
  rw [exec_request hr, arriveRequest, upCell_listens _ h1]
  simp only [takeRequest, State.heard_fields, h3, Option.isSome_none, Bool.false_eq_true, if_false, State.hasRoom, hq,
    Config.queuePlaces, h2, decide_true, if_true, serve, hb]

/-- The ownership step of an edit that may be made passes. -/
theorem editRefused_heard {s : State} {p : Up} (h : s.mayEdit p) : editRefused (s.heard p) p = false := by
  unfold State.mayEdit at h
  simp only [editRefused, State.heard_fields, Bool.and_eq_false_iff, decide_eq_false_iff_not, not_not]
  cases hf : s.flags.get 0
  · exact Or.inl rfl
  · exact Or.inr (h hf)

/-- The body of an edit that may be made. -/
theorem editRequest_body {s : State} {p : Up} (tag : W16) (code : Byte) (body : State → State × Answer) (h : s.mayEdit p) :
    (editRequest p tag code body).body (s.heard p) = ((body (s.heard p)).1, some (body (s.heard p)).2) := by
  simp [editRequest, editRefused_heard h]

/-- An edit that may be made, on a port that serves. -/
theorem exec_edit {i : Instr} {s t : State} {p : Up} {tag : W16} {code : Byte} {body : State → State × Answer} {a : Answer}
    (hr : requestOf i = some (editRequest p tag code body)) (h : s.serves p) (he : s.mayEdit p)
    (hb : body (s.heard p) = (t, a)) : exec i s = .next (t.replied p tag code a.outcome a.data) :=
  exec_served hr rfl h (by rw [editRequest_body tag code body he, hb])

/-- A read on a port that serves. -/
theorem exec_read {i : Instr} {s : State} {p : Up} {tag : W16} {code : Byte} {answer : State → Answer} {a : Answer}
    (hr : requestOf i = some (readRequest p tag code answer)) (h : s.serves p) (hb : answer (s.heard p) = a) :
    exec i s = .next ((s.heard p).replied p tag code a.outcome a.data) :=
  exec_served hr rfl h (by simp [readRequest, hb])

/-- A flag request on a port that serves. -/
theorem exec_flag {i : Instr} {s t : State} {p : Up} {tag : W16} {code : Byte} {body : State → State × Answer} {a : Answer}
    (hr : requestOf i = some (flagRequest p tag code body)) (h : s.serves p) (hb : body (s.heard p) = (t, a)) :
    exec i s = .next (t.replied p tag code a.outcome a.data) :=
  exec_served hr rfl h (by simp [flagRequest, hb])

end Sys2Proof.Machine
end

