-- ==== Sys2Proof/Tests/Slice0.lean ====
section
/-! SUPPORT. Tests: what the checks on commands refuse, the spec's worked examples, single steps on small states, and for
every statement a state and operands that meet its premises. -/

namespace Sys2Proof.Machine.Tests

open Sys2Proof

set_option maxRecDepth 20000

/-! ## Small states -/

/-- An upstream port that is UP, its last FRAME-OPEN at 950. -/
def upPort : Upstream := { Upstream.reset with state := .up, goodRun := 8, completeRun := 3, lastOpen := some 950 }

/-- An upstream port that is ALIGNED. -/
def alignedPort : Upstream := { Upstream.reset with state := .aligned, goodRun := 8 }

/-- Port D, ALIGNED. -/
def chainUp : ChainPort := { ChainPort.reset with aligned := true, goodRun := 8 }

/-- At part time 1000: UA is UP and the active source, UB and D are ALIGNED. -/
def live : State :=
  ((((State.reset.withClock 1000).withUa upPort).withUb alignedPort).withD chainUp).withSelector ⟨some .ua, none⟩

/-- A CANVAS entry of 16 by 16 at the canvas origin. -/
def canvas16 : CanvasPlan := ⟨false, 0, 0, 16, 16, .deg0, false⟩

/-- Facts of a tile of 16 by 16 with serial 1. -/
def facts16 : TileFacts := ⟨1, 16, 16, 12, 7⟩

/-- A record of 31 words for identity 1 and size 16 by 16: identity matrix and gains of 1.0. -/
def record16 : Record :=
  [0, 0, 0, 1, 16, 16, 0, 0, 0, 4096, 0, 0, 0, 4096, 0, 0, 0, 4096, 4096, 4096, 4096, 100, 0, 0, 0, 0, 0, 0, 0, 0, 0]

/-- Slot 0 CANVAS with an UNKNOWN tile, slot 1 FLAT and ABSENT with its probe due, slot 2 MIRROR of slot 0, MATCHED. -/
def hung : State :=
  (live.withPlans (((live.plans.set 0 (.canvas canvas16)).set 1 (.flat false ⟨9, 9, 9⟩)).set 2 (.mirror true 0))).withTiles
    (((live.tiles.set 0 ⟨.unknown, some { facts16 with serial := 2 }, none⟩).set 1 ⟨.absent, none, some (.instant 1000)⟩).set 2
      ⟨.matched, some facts16, none⟩) |>.withRecords [record16]

/-- `hung` with a frame of UA open in RECEIVING for 40 ms. -/
def receiving : State :=
  (hung.withUa { upPort with openFrame := some ⟨5, 960⟩ }).withReceiver ⟨.receiving 5 960, false⟩

/-- A scan in flight that has sent its last line. -/
def lastScan (s : State) : Scan := ⟨bind s, Table.replicate 16 65, 16, 0, []⟩

/-- `hung` with that scan in flight. -/
def scanning : State := hung.withEngine { hung.engine with scan := some (lastScan hung), repeatStart := none }

/-- A state in which a cell of a kind is in transmission on D. -/
def sending (kind : Byte) (s : State) : State := s.withD { s.d with tx := some ⟨kind, 3, [1]⟩ }

/-- A state with an outstanding query for a slot. -/
def asking (kind : QueryKind) (k : SlotId) (phase : QueryPhase) (s : State) : State :=
  s.withQuery { s.query with outstanding := some ⟨kind, k, 7, phase⟩, tagCounter := 7 }

/-- A state whose UA queue holds `n` cells. -/
def queued (n : Nat) (s : State) : State :=
  s.withUa { s.ua with queue := List.replicate n ⟨0x31, 0, []⟩ }

/-- A state in which a port holds the edit flag. -/
def held (p : Up) (s : State) : State := (s.withFlags (s.flags.set 0 true)).withHolder (some p)

/-- A state with an open load of a port. -/
def loading (p : Up) (words : List W16) (s : State) : State := s.withLoad (some ⟨p, 1, words, 0⟩)

/-- A state in which a RESTART of UA waits. -/
def restarting (ended : Bool) (s : State) : State := s.withRestart (some ⟨.ua, 4, ended, false, 0⟩)

/-- A state with an upstream port DOWN after a number of good cells. -/
def fallenUa (good : Nat) : State := live.withUa { Upstream.reset with goodRun := good }

/-- A state with port D DOWN after a number of good cells. -/
def fallenD (good : Nat) (s : State) : State := s.withD { ChainPort.reset with goodRun := good }

/-! ## The checks on commands refuse -/

theorem test_refuses_empty_run : Instr.wellFormed (.pixelRun .ua 0 0 []) = false := by decide
theorem test_refuses_run_beyond_canvas : Instr.wellFormed (.pixelRun .ua 0 4095 [⟨0, 0, 0⟩, ⟨0, 0, 0⟩]) = false := by decide
theorem test_refuses_run_on_line_4096 : Instr.wellFormed (.pixelRun .ua 4096 0 [⟨0, 0, 0⟩]) = false := by decide
theorem test_refuses_put_without_words : Instr.wellFormed (.libPut .ua 0 0 []) = false := by decide
theorem test_refuses_put_of_65_words : Instr.wellFormed (.libPut .ua 0 0 (List.replicate 65 0)) = false := by decide
theorem test_refuses_foreign_frame_open : Instr.wellFormed (.foreignCell (.up .ua) ⟨0x10, 0, [0, 1]⟩) = false := by decide
theorem test_refuses_known_request_as_unknown : Instr.wellFormed (.unknownRequest .ua 0 0x10 []) = false := by decide
theorem test_refuses_long_alert : Instr.wellFormed (.tileAlert 0 (List.replicate 4096 0)) = false := by decide +kernel
theorem test_accepts_the_boundaries :
    Instr.wellFormed (.pixelRun .ua 4095 4095 [⟨0, 0, 0⟩]) = true ∧ Instr.wellFormed (.libPut .ua 0 0 [0]) = true ∧
    Instr.wellFormed (.foreignCell (.up .ua) ⟨0x10, 0, [0]⟩) = true ∧
    Instr.wellFormed (.unknownRequest .ua 0 0x10 [0]) = true := by decide

/-! ## Cells -/

/-- The CRC of R2 over the characters 1 to 9. -/
theorem test_crc_of_nine_digits : crc16 [0x31, 0x32, 0x33, 0x34, 0x35, 0x36, 0x37, 0x38, 0x39] = 0x29B1 := by decide

theorem test_wire_round_trip :
    delineateAll none (.start :: (Cell.wire ⟨0x10, 0x1234, [0x00, 0x05]⟩).map LineSymbol.data) =
      (none, [.good ⟨0x10, 0x1234, [0x00, 0x05]⟩]) := by decide

theorem test_truncated_cell_fails : delineateAll none [.start, .data 0x10, .idle] = (none, [.failed]) := by decide

/-- A FRAME-OPEN of frame 5, a READ-LEVEL, a FLAG-SET of a wrong length, an IDENT and a kind of no port. -/
theorem test_cells_are_commands :
    cellCommand (.up .ua) ⟨0x10, 0, [0x00, 0x05]⟩ = .frameOpen .ua 5 ∧
    cellCommand (.up .ub) ⟨0x20, 9, [0x10]⟩ = .readLevel .ub 9 ∧
    cellCommand (.up .ub) ⟨0x20, 9, [0x12, 0, 0]⟩ = .unknownRequest .ub 9 0x12 [0, 0] ∧
    cellCommand .d ⟨0x50, 9, [3, 0, 0, 0, 0, 0, 0, 0, 1, 0, 16, 0, 24, 12, 0, 0, 7]⟩ = .ident 9 3 1 16 24 12 7 ∧
    cellCommand .d ⟨0x10, 0, [0, 5]⟩ = .foreignCell .d ⟨0x10, 0, [0, 5]⟩ := by decide

/-! ## Worked examples of the spec -/

/-- The record and gains of 6.10. -/
def workedCalibration : Calibration :=
  ⟨⟨8, 8, 10⟩, ⟨⟨4300, -150, -50⟩, ⟨-120, 4250, -80⟩, ⟨-40, -200, 4400⟩⟩, ⟨3932, 3850, 4012⟩, []⟩

theorem test_worked_gains :
    combinedGain 3932 70664 62259 = 64443 ∧ combinedGain 3850 68125 62259 = 60832 ∧
    combinedGain 4012 67731 62259 = 63025 := by decide

theorem test_worked_pixels :
    scaledPixel workedCalibration ⟨64443, 60832, 63025⟩ 16 14 4096 ⟨2000, 1800, 1500⟩ = ⟨7894, 6579, 5747⟩ ∧
    scaledPixel workedCalibration ⟨64443, 60832, 63025⟩ 16 14 5734 ⟨2000, 1800, 1500⟩ = ⟨11051, 9210, 8045⟩ ∧
    scaledPixel workedCalibration ⟨64443, 60832, 63025⟩ 16 14 4096 ⟨4095, 4095, 4095⟩ = ⟨16091, 15004, 15960⟩ ∧
    scaledPixel workedCalibration ⟨64443, 60832, 63025⟩ 16 14 4096 ⟨20, 15, 12⟩ = ⟨47, 26, 8⟩ ∧
    topClamps 14 (scaledPixel workedCalibration ⟨64443, 60832, 63025⟩ 16 14 5734 ⟨4095, 4095, 4095⟩) = 3 := by decide

theorem test_worked_headrooms :
    channelHeadroom 3932 70664 = some 63315 ∧ channelHeadroom 3850 68125 = some 67073 ∧
    channelHeadroom 4012 67731 = some 64739 ∧ channelHeadroom 0 65536 = none := by decide

theorem test_worked_targets :
    (rawTargets ⟨100, ⟨6000, 3000, 2500⟩, 850, ⟨150, 100, 200⟩⟩ (some ⟨138, 1340, false⟩) 1340).map clampTarget =
      ⟨69320, 67436, 67157⟩ ∧
    (rawTargets ⟨100, ⟨6000, 3000, 2500⟩, 0, ⟨0, 0, 0⟩⟩ (some ⟨-120, 0, false⟩) 0).map clampTarget =
      ⟨49152, 54723, 56525⟩ := by decide

theorem test_worked_ramps :
    BandLine.ramp ⟨100, 105, 4096, 6144⟩ 104 = 5734 ∧ BandLine.ramp ⟨40, 52, 6144, 2048⟩ 45 = 4438 ∧
    BandLine.ramp ⟨-8, 8, 2048, 4096⟩ 0 = 3072 ∧ combineFactor 6144 6144 = 6144 ∧ combineFactor 6144 2048 = 3072 := by
  decide

theorem test_worked_mapping :
    CanvasPlan.native ⟨false, 100, 200, 64, 32, .deg0, false⟩ 131 263 = some (63, 31) ∧
    CanvasPlan.native ⟨false, 100, 200, 64, 32, .deg90, false⟩ 110 203 = some (10, 60) ∧
    CanvasPlan.native ⟨false, 100, 200, 64, 32, .deg90, true⟩ 110 203 = some (10, 3) ∧
    CanvasPlan.native ⟨false, 100, 200, 64, 32, .deg180, false⟩ 100 200 = some (63, 31) ∧
    CanvasPlan.native ⟨false, 100, 200, 64, 32, .deg270, false⟩ 100 263 = some (31, 63) ∧
    CanvasPlan.native ⟨false, 100, 200, 64, 32, .deg270, false⟩ 132 200 = none := by decide

theorem test_record_passes_its_checks : firstBadWord 1 record16 = none ∧ firstBadWord 2 record16 = some 3 := by decide

/-! ## Single steps -/

/-- The state a command leaves. -/
def after (c : Instr) (s : State) : State :=
  match exec c s with
  | .next t => t
  | _ => s

theorem test_read_setting_replies :
    (after (.readSetting .ua 9 4) live).ua.queue = [⟨0x30, 9, [0x01, 0x00, 4, 0, 0, 0, 20]⟩] := by decide

theorem test_write_setting_clamps :
    (after (.writeSetting .ub 9 4 5000000) live).ub.queue.map (fun c => c.payload.take 3) = [[0x02, 0x01, 4]] := by decide

theorem test_frame_close_starts_scan :
    (after (.frameClose .ua 5) receiving).engine.number = 1 ∧
    (after (.frameClose .ua 5) receiving).d.tx.map (fun c => (c.kind, c.payload.take 4)) =
      some (0x40, [0x00, 0x00, 0x00, 0x10]) := by decide

/-- R40: the frame abandoned as late is closed uncompleted by the tracker, so a later FRAME-CLOSE completes nothing. -/
theorem test_late_frame_is_not_completed :
    (after .frameOpenLimitExpiry receiving).ua.openFrame = none ∧ (after .frameOpenLimitExpiry receiving).ua.completeRun = 0 ∧
    (after (.frameClose .ua 5) (after .frameOpenLimitExpiry receiving)).ua.complete = receiving.ua.complete := by decide

/-- R65, R66: a timeout or an accepted reply ends the query; the channel is free for the next. -/
theorem test_query_ends :
    (after .probeTimeout (asking .probe 1 (.sent 990) hung)).query.outstanding = none ∧
    (after .senseTimeout (asking .sense 0 (.sent 990) hung)).query.outstanding = some ⟨.probe, 1, 8, .sending⟩ ∧
    (after (.senseReply 7 0 2 100 9) (asking .sense 0 (.sent 1000) hung)).query.outstanding =
      some ⟨.probe, 1, 8, .sending⟩ := by decide

/-- R186: no notice is offered while a RESTART waits. -/
theorem test_no_offer_while_restart_waits :
    (after .noticeOffer (live.withCauses (live.causes.set 0 ⟨true, false, true, 1, none, 1⟩))).noticePlaced = true ∧
    (after .noticeOffer (restarting false (live.withCauses (live.causes.set 0 ⟨true, false, true, 1, none, 1⟩)))).noticePlaced =
      false := by decide

theorem test_blackout_is_black :
    (after .blanknAssertion hung).d.tx.map (fun c => c.payload.drop 4) = some (List.replicate 96 0) := by decide

theorem test_next_line_is_formed :
    (after .tilePixelsSent (sending 0x40 (hung.withEngine { hung.engine with
      scan := some ⟨bind hung, Table.replicate 16 0, 0, 15, []⟩, repeatStart := none }))).d.tx.map
        (fun c => (c.kind, c.payload.take 4)) = some (0x40, [0, 15, 0, 16]) := by decide

theorem test_idle_step_sends_due_probe :
    (match step live with | .next t => t.clock | _ => 0) = 1001 ∧
    (after (.probeDue 1) hung).d.tx = some ⟨0x42, 1, [1]⟩ := by decide

theorem test_ident_matches :
    ((after (.ident 7 1 1 16 16 12 7) (asking .probe 1 .sending hung)).tile 1).presence = .matched := by decide

theorem test_flag_change_takes_edit_flag :
    (after (.flagChange .ub 1 0) live).holder = some .ub ∧
    (after (.setLevel .ua 2 0) (after (.flagChange .ub 1 0) live)).level.wall = 65536 := by decide

theorem test_pixel_run_rotates :
    Image.pixel ((after (.pixelRun .ua 0 15 [⟨1, 2, 3⟩])
      (receiving.withPlans (receiving.plans.set 0 (.canvas { canvas16 with orientation := .deg90 })))).incoming.get 0)
      (pixelKey 0 0) = ⟨1, 2, 3⟩ := by decide

/-! ## Premises met

For each statement, states and operands that meet its premises together; where a clause has a range, at a boundary of it. -/

theorem test_meets_StepRunsFrontCommand :
    (live.withPending [.scanEnd, .powerReset]).pending = [.scanEnd, .powerReset] := rfl

theorem test_meets_PartTimeAdvancesByIdleSteps : Instr.scanEnd ≠ .powerReset ∧ State.reset.pending = [] := by decide

theorem test_meets_FailedCellIsTalliedAndRaised :
    (live.up .ua).lost = false ∧ (live.up .ua).failedRun < 15 ∧
    ((live.withUa { upPort with failedRun := 14 }).up .ua).failedRun < 15 ∧
    ((live.withUa { upPort with failedRun := 15 }).up .ua).failedRun = 15 ∧
    live.d.lost = false ∧ (live.withD { chainUp with failedRun := 14 }).d.failedRun < 15 ∧
    (live.withD { chainUp with failedRun := 15 }).d.failedRun = 15 ∧ live.d.aligned = true ∧
    (live.up .ua).state ≠ .down ∧ (live.up .ua).state = .up ∧
    ((live.withUa { Upstream.reset with failedRun := 15 }).up .ua).state = .down ∧
    (live.withD { ChainPort.reset with failedRun := 15 }).d.aligned = false ∧
    (live.withD { ChainPort.reset with failedRun := 15 }).d.failedRun = 15 := by decide

theorem test_meets_LossOfSignalTakesUpstreamPortDown :
    ((loading .ua [1] (held .ua live)).up .ua).state ≠ .down ∧ (held .ua live).holder = some .ua ∧
    (held .ub live).holder ≠ some .ua ∧ (∃ l ∈ (loading .ua [1] live).load, l.owner = .ua) ∧
    (∃ l ∈ (loading .ub [1] live).load, l.owner ≠ .ua) ∧ live.selector.active = some .ua ∧
    (State.reset.up .ua).state = .down := by decide

theorem test_meets_LossOfSignalOnDLosesTiles :
    hung.d.aligned = true ∧ (hung.tile 0).presence.identified = true ∧ (hung.tile 1).presence.identified = false ∧
    State.reset.d.aligned = false := by decide

theorem test_meets_EighthGoodCellAlignsPort :
    upstreamCell (.frameOpen .ua 5) = some .ua ∧ ((fallenUa 6).up .ua).lost = false ∧
    ((fallenUa 6).up .ua).state = .down ∧ ((fallenUa 6).up .ua).goodRun < 7 ∧
    ((fallenUa 7).up .ua).lost = false ∧ ((fallenUa 7).up .ua).state = .down ∧ ((fallenUa 7).up .ua).goodRun = 7 ∧
    chainCell (.tileAlert 0 []) = true ∧ (fallenD 6 hung).d.lost = false ∧ (fallenD 6 hung).d.aligned = false ∧
    (fallenD 6 hung).d.goodRun < 7 ∧ (fallenD 7 hung).d.goodRun = 7 ∧ (hung.tile 1).presence = .absent ∧
    (hung.tile 0).presence ≠ .absent := by decide

theorem test_meets_ForeignAndStrayCellsAreTallied :
    live.listens .ua ∧ live.listensD ∧ (asking .probe 1 .waiting live).listensD ∧
    (∀ q ∈ (asking .probe 1 .waiting live).query.outstanding,
      q.kind = .sense ∨ q.slot.val ≠ (1 : Byte).toNat ∨ q.tag ≠ 7 ∨ q.phase = .waiting) ∧
    (∀ q ∈ (asking .sense 1 .sending live).query.outstanding,
      q.kind = .probe ∨ q.slot.val ≠ (255 : Byte).toNat ∨ q.tag ≠ 7 ∨ q.phase = .waiting) := by
  unfold State.listens State.listensD; decide

theorem test_meets_TileAlertIsForwarded :
    live.listensD ∧ ((queued 31 live).up .ua).state ≠ .down ∧ ((queued 31 live).up .ua).queue.length < 32 ∧
    (∀ w ∈ (restarting false live).restart, w.port ≠ .ub) ∧ ¬ ((queued 32 live).up .ua).queue.length < 32 ∧
    ((queued 32 live).up .ub).queue.length < 32 ∧
    ¬ (((queued 32 live).withUb { alignedPort with queue := List.replicate 32 ⟨0x31, 0, []⟩ }).up .ub).queue.length < 32 := by
  unfold State.listensD; decide

theorem test_meets_LineEventsChangeOneThing :
    ((live.withUa { upPort with lost := true }).up .ua).lost = true ∧ upstreamCell (.readLevel .ua 0) = some .ua ∧
    (live.withD { chainUp with lost := true }).d.lost = true ∧ chainCell (.foreignCell .d ⟨0x20, 0, []⟩) = true := by decide

theorem test_meets_TrackerFollowsFrames :
    live.listens .ub ∧ live.selector.active ≠ some .ub ∧
    (∃ f ∈ ((live.withUb { alignedPort with openFrame := some ⟨5, 960⟩, completeRun := 1 }).up .ub).openFrame,
      f.number = 5 ∧ (live.clock - f.openedAt : Int) ≤ live.setting 2) ∧
    (∀ f ∈ (live.up .ub).openFrame, f.number ≠ 5) ∧
    ∀ f ∈ ((live.withUb { alignedPort with openFrame := some ⟨5, 960⟩ }).up .ub).openFrame, f.number ≠ 6 := by
  unfold State.listens; decide

/-- UA ALIGNED with two complete frames and an open one, its last FRAME-OPEN at a given time, at 3000; no port UP. -/
def rising (lastOpen : Nat) : State :=
  (State.reset.withClock 3000).withUa
    { alignedPort with completeRun := 2, openFrame := some ⟨5, 2990⟩, lastOpen := some lastOpen }

theorem test_meets_ThirdCompleteFrameTakesPortUp :
    (rising 2901).listens .ua ∧ ((rising 2901).up .ua).state = .aligned ∧ (rising 2901).selector.active = none ∧
    ((rising 2901).up .ub).state ≠ .up ∧ ((rising 2901).up .ua).completeRun = 2 ∧
    ((rising 2901).up .ua).openFrame = some ⟨5, 2990⟩ ∧ ((rising 2901).up .ua).lastOpen = some 2901 ∧
    2901 ≤ (rising 2901).clock ∧ ((rising 2901).clock - (2901 : Nat) : Int) < (rising 2901).setting 1 ∧
    (rising 2900).listens .ua ∧ ((rising 2900).up .ua).lastOpen = some 2900 ∧
    (rising 2900).setting 1 ≤ ((rising 2900).clock - (2900 : Nat) : Int) ∧ 0 ≤ (rising 2900).setting 1 := by
  unfold State.listens; decide

/-- `rising` with UB UP and the active source; UA is the preferred port. -/
def rival (lastOpen : Nat) : State := ((rising lastOpen).withUb upPort).withSelector ⟨some .ub, none⟩

theorem test_meets_ThirdCompleteFrameTakesPortUp_rival :
    (rival 2901).listens .ua ∧ ((rival 2901).up .ua).state = .aligned ∧ (rival 2901).selector.active = some (otherPort .ua) ∧
    ((rival 2901).up (otherPort .ua)).state = .up ∧ 0 ≤ (rival 2901).setting 1 ∧ ((rival 2901).up .ua).completeRun = 2 ∧
    ((rival 2901).up .ua).openFrame = some ⟨5, 2990⟩ ∧ ((rival 2901).up .ua).lastOpen = some 2901 ∧
    2901 ≤ (rival 2901).clock ∧ ((rival 2901).clock - (2901 : Nat) : Int) < (rival 2901).setting 1 ∧
    (rival 2901).setting 0 ≠ 1 ∧ ((rival 2901).withSettings ((rival 2901).settings.set 0 1)).setting 0 = 1 ∧
    (rival 2901).receiving = false ∧ ((rival 2901).withReceiver ⟨.receiving 5 2990, false⟩).receiving = true ∧
    ((rival 2900).up .ua).lastOpen = some 2900 ∧
    (rival 2900).setting 1 ≤ ((rival 2900).clock - (2900 : Nat) : Int) := by
  unfold State.listens; decide

theorem test_meets_SourceLossTimeTakesPortFromUp :
    (live.up .ua).state = .up ∧ (live.up .ua).lastOpen = some 950 ∧ 950 ≤ (live.withClock 1049).clock ∧
    0 ≤ live.setting 1 ∧ live.setting 1 ≤ ((live.withClock 1050).clock - (950 : Nat) : Int) ∧
    ((live.withClock 1049).clock - (950 : Nat) : Int) < live.setting 1 ∧ live.selector.active = some .ua := by decide

/-- A state with a switch to UB pending. -/
def switching (s : State) : State := s.withSelector ⟨some .ua, some .ub⟩

theorem test_meets_FrameOpenBeginsFrame :
    hung.listens .ua ∧ hung.selector.active = some .ua ∧ hung.receiving = false ∧ hung.receiver.ready = false ∧
    (scanning.withReceiver ⟨.idle, true⟩).receiving = false ∧ (scanning.withReceiver ⟨.idle, true⟩).listens .ua ∧
    receiving.listens .ua ∧ receiving.receiving = true ∧ receiving.selector.toSwitch = none ∧
    (switching receiving).listens .ua ∧ (switching receiving).receiving = true ∧
    (switching receiving).selector.toSwitch = some .ub ∧ (hung.plans.get 0).isCanvas = true := by
  unfold State.listens; decide

theorem test_meets_PixelRunPlacesPixels :
    receiving.listens .ua ∧ receiving.selector.active = some .ua ∧ receiving.receiving = true ∧
    runMalformed 15 0 128 = false ∧ runMalformed 4095 4095 1 = false ∧ receiving.plans.get 0 = .canvas canvas16 ∧
    canvas16.width ≤ 256 ∧ canvas16.height ≤ 256 ∧ Image.wf (receiving.incoming.get 0) = true ∧
    canvas16.native 15 15 = some (15, 15) ∧ canvas16.native 15 16 = none ∧ hung.receiving = false ∧
    hung.selector.active ≠ some .ub ∧ ([] : List RawPixel).length = 0 ∧
    128 < (List.replicate 129 (⟨0, 0, 0⟩ : RawPixel)).length ∧ 4095 < (4096 : W16).toNat ∧
    4096 < (4095 : W16).toNat + [(⟨0, 0, 0⟩ : RawPixel), ⟨0, 0, 0⟩].length := by
  unfold State.listens; decide

theorem test_meets_FootprintMapsOntoTile :
    canvas16.line ≤ 15 ∧ 15 < canvas16.line + canvas16.height ∧ canvas16.column ≤ 15 ∧
    15 < canvas16.column + canvas16.width ∧ 15 < canvas16.implied.1 ∧ 15 < canvas16.implied.2 ∧ 15 < canvas16.width ∧
    15 < canvas16.height ∧ canvas16.line + canvas16.height ≤ 16 ∧ canvas16.column + canvas16.width ≤ 16 ∧
    15 < ({ canvas16 with line := 16 } : CanvasPlan).line ∧ 15 < ({ canvas16 with column := 16 } : CanvasPlan).column := by
  decide

theorem test_meets_FrameCloseEndsFrame :
    receiving.listens .ua ∧ receiving.selector.active = some .ua ∧ (receiving.up .ua).state = .up ∧
    (receiving.up .ua).openFrame = some ⟨5, 960⟩ ∧ receiving.receiver.phase = .receiving 5 960 ∧
    receiving.engine.scan = none ∧ (receiving.withEngine scanning.engine).engine.scan.isSome = true ∧
    receiving.selector.toSwitch = none ∧ (switching receiving).selector.toSwitch = some .ub ∧
    hung.listens .ua ∧ (hung.up .ua).openFrame = none ∧ hung.receiver.phase = .idle := by
  unfold State.listens; decide

theorem test_meets_LimitsActWhenExpired :
    0 ≤ receiving.setting 2 ∧ 0 ≤ receiving.setting 3 ∧ (receiving.up .ua).openFrame = some ⟨5, 960⟩ ∧
    receiving.receiver.phase = .receiving 5 960 ∧ 960 ≤ (receiving.withClock 999).clock ∧
    receiving.setting 2 = (receiving.clock - (960 : Nat) : Int) ∧ receiving.selector.active = some .ua ∧
    (switching receiving).selector.toSwitch = some .ub ∧ receiving.engine.display = .live ∧
    receiving.engine.holdStart ≤ receiving.clock ∧
    receiving.setting 3 = ((receiving.withClock 2000).clock - receiving.engine.holdStart : Int) ∧
    (∃ l ∈ (loading .ua [] (live.withClock 2000)).load, l.openedAt ≤ 2000 ∧ 2000 ≤ 2000 - l.openedAt) := by decide

theorem test_meets_RepeatTimerStartsScan :
    hung.engine.scan = none ∧ hung.engine.repeatStart = some 0 ∧ 0 ≤ hung.setting 4 ∧ hung.receiver.ready = false ∧
    hung.setting 4 ≤ ((hung.withClock 20).clock - (0 : Nat) : Int) ∧
    ((hung.withClock 19).clock - (0 : Nat) : Int) < hung.setting 4 ∧ (hung.tile 0).presence.identified = true ∧
    (hung.tile 1).presence.identified = false := by decide

/-- `scanJustStarted`, its premises: a first sent slot of a size, or none; a free transmitter with nothing first. -/
theorem test_meets_scanJustStarted :
    (∃ sc ∈ (startScan hung).engine.scan, (sc.binding.slots.get 0).sent.isSome = true ∧
      (∃ z ∈ (sc.binding.slots.get 0).size, 0 < z.width ∧ 1 < z.height)) ∧
    (∃ sc ∈ (startScan live).engine.scan, ∀ k, (sc.binding.slots.get k).sent = none) ∧ hung.d.tx = none ∧
    (sending 0x42 hung).d.tx ≠ none ∧ hung.restart = none ∧ (∀ q ∈ hung.query.outstanding, q.phase ≠ .sending) := by decide

theorem test_meets_CombinedGainIsExactAndGuarded :
    (∃ sc ∈ (startScan hung).engine.scan, (sc.binding.slots.get 0).sent.isSome = true ∧
      (sc.binding.slots.get 0).dark = false) ∧ hung.setting 15 = 1 := by decide

theorem test_meets_NextCellFollowsTilePixels :
    (∃ c ∈ (sending 0x40 scanning).d.tx, c.kind = 0x40) ∧
    (sending 0x40 scanning).engine.scan = some (lastScan hung) ∧ (lastScan hung).cells = [] ∧ (lastScan hung).slot = 16 ∧
    (sending 0x40 scanning).restart = none ∧ (∀ q ∈ scanning.query.outstanding, q.phase ≠ .waiting) ∧
    (∃ sc ∈ (scanning.withEngine { scanning.engine with
      scan := some { lastScan hung with cells := [⟨0x40, 0, [1]⟩] } }).engine.scan, sc.cells ≠ []) ∧
    ∃ q ∈ (asking .probe 1 .waiting scanning).query.outstanding, q.kind = .probe ∧ q.phase = .waiting := by decide

/-- `hung` with a scan in flight that has a line of slot 0 to form. -/
def forming (line : Nat) : State :=
  sending 0x40 (scanning.withEngine
    { scanning.engine with scan := some { lastScan hung with slot := 0, line := line } })

theorem test_meets_NextCellFollowsTilePixels_line :
    (∀ line ∈ [14, 15], (∃ c ∈ (forming line).d.tx, c.kind = 0x40) ∧
      ∃ sc ∈ (forming line).engine.scan, sc.cells = [] ∧ sc.slot = (0 : SlotId).val ∧ sc.line = line ∧
        (sc.binding.slots.get 0).sent.isSome = true ∧ (∃ z ∈ (sc.binding.slots.get 0).size, 0 < z.width ∧ z.height = 16)) ∧
    14 + 1 < 16 ∧ 16 ≤ 15 + 1 ∧ (forming 15).restart = none ∧
    (∀ q ∈ (forming 15).query.outstanding, q.phase ≠ .waiting) ∧ ((bind hung).slots.get 1).sent = none ∧
    ((bind hung).slots.get 2).sent.isSome = true := by decide

theorem test_meets_ScanEndCompletesScan :
    (∃ c ∈ (sending 0x41 scanning).d.tx, c.kind = 0x41) ∧ scanning.engine.scan = some (lastScan hung) ∧
    scanning.engine.deferredBlanks = 0 ∧ 0 ≤ scanning.setting 7 ∧ (lastScan hung).binding.limitThreshold < 65 ∧
    (lastScan hung).running.get 0 = 65 ∧ scanning.receiver.ready = false ∧
    (scanning.withReceiver ⟨.idle, true⟩).receiver.ready = true ∧
    (∀ q ∈ scanning.query.outstanding, q.phase ≠ .waiting) ∧ scanning.restart = none ∧
    (restarting false scanning).restart.isSome = true ∧
    (∃ q ∈ (asking .probe 1 .waiting scanning).query.outstanding, q.phase = .waiting) ∧
    0 < (scanning.withEngine { scanning.engine with deferredBlanks := 1 }).engine.deferredBlanks := by decide

/-- The premises of `choosesNext`, each in turn: nothing chosen, a due probe, the head of the list, the round robin. -/
theorem test_meets_choosesNext :
    hung.d.aligned = true ∧ hung.query.outstanding = none ∧ (fallenD 0 hung).d.aligned = false ∧
    probeIsDue hung 1 = true ∧ (∀ j, j < (1 : SlotId) → probeIsDue hung j = false) ∧
    (∀ k, probeIsDue (hung.withTile 1 ⟨.empty, none, none⟩) k = false) ∧
    (hung.withQuery { hung.query with senseList := [2, 0] }).query.senseList = [2, 0] ∧ hung.query.senseList = [] ∧
    hung.query.roundDue = false ∧ (hung.withQuery { hung.query with roundDue := true, pointer := 1 }).query.roundDue = true ∧
    (hung.tile (1 + 1)).presence.identified = true ∧
    (∀ j, j < (1 : SlotId) → ¬ (hung.tile (1 + j)).presence.identified = true) ∧
    ∀ k, ¬ (live.tile k).presence.identified = true := by decide

/-- `choosesAfter`, its premise, and `nextPhase` in each of its cases. -/
theorem test_meets_choosesAfter :
    (∀ q ∈ (fallenD 7 hung).query.outstanding, q.phase ≠ .waiting) ∧
    (∀ q ∈ ({ hung.query with outstanding := none } : QueryUnit).outstanding, q.phase ≠ .waiting) ∧
    (∀ q ∈ (asking .probe 1 (.sent 990) hung).query.outstanding.filter fun q => decide (q.slot ≠ 0), q.phase ≠ .waiting) ∧
    nextPhase hung = .sending ∧ nextPhase (restarting false hung) = .sending ∧ nextPhase (restarting true hung) = .waiting ∧
    nextPhase (sending 0x40 hung) = .waiting := by decide

theorem test_meets_BlanknAssertionStartsBlackScan :
    scanning.engine.blank = false ∧ (∀ c ∈ scanning.d.tx, c.kind ≠ 0x41) ∧
    (∀ c ∈ (sending 0x40 scanning).d.tx, c.kind ≠ 0x41) ∧ ∃ c ∈ (sending 0x41 scanning).d.tx, c.kind = 0x41 := by decide

theorem test_meets_SentTimeIsFixedAtLastByte :
    (sending 0x42 (asking .probe 1 .sending hung)).query.outstanding = some ⟨.probe, 1, 7, .sending⟩ ∧
    (sending 0x42 (asking .probe 1 .sending hung)).d.tx = some ⟨0x42, 3, [1]⟩ ∧
    (sending 0x43 (asking .sense 0 .sending hung)).query.outstanding = some ⟨.sense, 0, 7, .sending⟩ ∧
    (sending 0x43 (asking .sense 0 .sending hung)).d.tx = some ⟨0x43, 3, [1]⟩ ∧ hung.engine.scan = none := by decide

theorem test_meets_AcceptedIdentIdentifiesTile :
    (asking .probe 1 .sending hung).listensD ∧
    (∃ q ∈ (asking .probe 1 .sending hung).query.outstanding,
      q.kind = .probe ∧ q.slot.val = (1 : Byte).toNat ∧ q.tag = 7 ∧ q.phase ≠ .waiting) ∧
    ((after (.ident 7 1 1 16 16 12 7) (asking .probe 1 .sending hung)).tile 1).presence = .matched ∧
    ((after (.ident 7 1 5 16 16 12 7) (asking .probe 1 .sending hung)).tile 1).presence = .unknown ∧
    ((after (.ident 7 1 1 16 16 13 7) (asking .probe 1 .sending hung)).tile 1).presence = .misfit := by
  unfold State.listensD; decide

theorem test_meets_SenseReplyStoresReadingOrLosesTile :
    (asking .sense 0 (.sent 1000) hung).listensD ∧
    (∃ q ∈ (asking .sense 0 (.sent 1000) hung).query.outstanding, q.kind = .sense ∧ q.slot.val = (0 : Byte).toNat ∧
      q.tag = 7 ∧ q.phase ≠ .waiting) ∧
    (∃ f ∈ (hung.tile 0).facts, f.serial.setWidth 16 = (2 : W16) ∧ f.serial.setWidth 16 ≠ (3 : W16)) ∧
    (BitVec.ofInt 16 (-161)).toInt < -160 ∧ 500 < (501 : W16).toInt ∧
    (asking .sense 0 (.sent 1000) hung).query.tagCounter = 7 ∧ (hung.tile 0).presence = .unknown ∧
    (hung.tile 2).presence = .matched ∧ ((hung.withTile 0 ⟨.misfit, some facts16, none⟩).tile 0).presence = .misfit := by
  unfold State.listensD; decide

theorem test_meets_QueryTimesOut :
    (asking .probe 1 (.sent 990) hung).query.outstanding = some ⟨.probe, 1, 7, .sent 990⟩ ∧
    (asking .sense 0 (.sent 990) hung).query.outstanding = some ⟨.sense, 0, 7, .sent 990⟩ ∧ 990 ≤ hung.clock ∧
    0 ≤ hung.setting 6 ∧ hung.setting 6 ≤ (hung.clock - (990 : Nat) : Int) ∧
    (hung.clock - (991 : Nat) : Int) < hung.setting 6 ∧ (hung.drift.get 0).miss < 2 ∧
    ((hung.withDriftOf 0 { Drift.reset with miss := 2 }).drift.get 0).miss = 2 ∧ (hung.tile 1).presence = .absent ∧
    (after .probeTimeout (asking .probe 1 (.sent 990) hung)).tile 1 = { hung.tile 1 with due := some (.afterProbe 990) } ∧
    0 ≤ hung.setting 5 ∧ 990 ≤ (hung.withClock 1489).clock ∧
    ((hung.withClock 1489).clock - (990 : Nat) : Int) < hung.setting 5 ∧
    hung.setting 5 = ((hung.withClock 1490).clock - (990 : Nat) : Int) := by decide

theorem test_meets_DueProbeIsSentLowestSlotFirst :
    probeIsDue hung 1 = true ∧ (∀ i, i < (1 : SlotId) → probeIsDue hung i = false) ∧ hung.d.tx = none ∧
    hung.restart = none ∧ hung.d.aligned = true ∧ hung.query.outstanding = none ∧ (fallenD 0 hung).d.aligned = false ∧
    (fallenD 0 hung).engine.scan = none ∧ (∀ q ∈ (fallenD 0 hung).query.outstanding, q.phase ≠ .waiting) ∧
    probeIsDue (fallenD 0 hung) 1 = true ∧ (asking .sense 0 .sending hung).query.outstanding.isSome = true := by decide

theorem test_meets_TableReadsAnswerStoredValues :
    hung.serves .ua ∧ (queued 31 hung).serves .ua ∧ (16 : Byte).toNat < 17 ∧ 16 < (17 : Byte).toNat ∧
    (15 : Byte).toNat < 16 ∧ 15 < (16 : Byte).toNat ∧ (3 : Byte).toNat < 4 ∧ 3 < (4 : Byte).toNat := by
  unfold State.serves State.listens; decide

theorem test_meets_LibraryReadsAnswerRecords :
    hung.serves .ua ∧ (0 : Byte).toNat = 0 ∧ 64 < (65 : Byte).toNat ∧ 1 ≤ (64 : Byte).toNat ∧ (64 : Byte).toNat ≤ 64 ∧
    findRecord hung.records 3 = none ∧ findRecord hung.records 1 = some record16 ∧ record16.length ≤ (31 : W16).toNat ∧
    (30 : W16).toNat < record16.length ∧ 47 < (48 : Byte).toNat ∧ (47 : Byte).toNat ≤ 47 ∧ 48 < (49 : Byte).toNat ∧
    (48 : Byte).toNat ≤ 48 := by
  unfold State.serves State.listens; decide

theorem test_meets_StatusReadsAnswerPresentValues :
    hung.serves .ua ∧ (15 : Byte).toNat < 16 ∧ 15 < (16 : Byte).toNat := by
  unfold State.serves State.listens; decide

theorem test_meets_WriteSettingStoresOrClamps :
    hung.serves .ua ∧ hung.mayEdit .ua ∧ (held .ua hung).mayEdit .ua ∧ 16 < (17 : Byte).toNat ∧ (16 : Byte).toNat < 17 ∧
    (2 : W32).toInt ≠ 0 ∧ (2 : W32).toInt ≠ 1 ∧ (1 : W32).toInt = 1 ∧ (7 : Byte).toNat ∈ [7, 8, 9, 10, 11, 15, 16] := by
  unfold State.serves State.listens State.mayEdit; decide

/-- For the settings that act at the write: what each compares with, at and beside the value written. -/
theorem test_meets_WriteSettingStoresOrClamps_acts :
    (0 : Byte).toNat = 0 ∧ (1 : W32).toInt = 1 ∧ hung.selector.active = some .ua ∧ (hung.up .ua).state = .up ∧
    (hung.up .ub).state ≠ .up ∧ ((hung.withUb upPort).up .ub).state = .up ∧ hung.receiving = false ∧
    (receiving.withUb upPort).receiving = true ∧ (live.withSelector ⟨none, none⟩).selector.active = none ∧
    (∀ q ∈ [Up.ua, Up.ub], ((live.withUa alignedPort).up q).state ≠ .up) ∧ (live.withUa alignedPort).serves .ua ∧
    (∀ q ∈ [Up.ua, Up.ub], ((hung.withUb upPort).up q).lastOpen.isSome = true) ∧
    (hung.up .ua).lastOpen = some 950 ∧ (50 : Int) ≤ (hung.clock - (950 : Nat) : Int) ∧
    ¬ (51 : Int) ≤ (hung.clock - (950 : Nat) : Int) ∧ (receiving.up .ua).openFrame = some ⟨5, 960⟩ ∧
    receiving.receiver.phase = .receiving 5 960 ∧ (40 : Int) ≤ (receiving.clock - (960 : Nat) : Int) ∧
    ¬ (41 : Int) ≤ (receiving.clock - (960 : Nat) : Int) ∧ hung.engine.display = .live ∧ hung.engine.holdStart = 0 ∧
    (1000 : Int) ≤ (hung.clock - (0 : Nat) : Int) ∧ ¬ (1001 : Int) ≤ (hung.clock - (0 : Nat) : Int) := by
  unfold State.serves State.listens; decide

theorem test_meets_WriteSettingStoresOrClamps_acts_more :
    hung.engine.repeatStart = some 0 ∧ hung.engine.scan = none ∧ scanning.engine.scan.isSome = true ∧
    (100 : Int) ≤ (hung.clock - (0 : Nat) : Int) ∧ ¬ (100 : Int) ≤ ((hung.withClock 99).clock - (0 : Nat) : Int) ∧
    (∀ q ∈ hung.query.outstanding, q.phase ≠ .waiting) ∧ (fallenD 0 (sending 0x40 hung)).d.aligned = false ∧
    (sending 0x40 (asking .probe 1 (.sent 990) hung)).query.outstanding.isSome = true ∧
    (sending 0x40 (asking .probe 1 (.sent 990) hung)).d.tx.isSome = true ∧
    (asking .probe 1 (.sent 990) hung).query.outstanding = some ⟨.probe, 1, 7, .sent 990⟩ ∧
    (asking .sense 0 (.sent 990) hung).query.outstanding = some ⟨.sense, 0, 7, .sent 990⟩ ∧
    (10 : Int) ≤ (hung.clock - (990 : Nat) : Int) ∧ ¬ (11 : Int) ≤ (hung.clock - (990 : Nat) : Int) ∧
    (hung.tile 0).presence = .unknown ∧ (hung.tile 2).presence ≠ .unknown ∧ (14 : Byte).toNat ∈ [12, 13, 14] := by decide

/-- A CANVAS entry of 16 by 16 as a request carries it. -/
def rawCanvas (line column : W16) : RawPlan := ⟨1, 0, line, column, 16, 16, 0, 0, 0, 0, ⟨0, 0, 0⟩⟩

/-- Four large footprints whose areas sum to 262,144. -/
def fullPlans : Table Plan 16 :=
  let big (n : Nat) : Plan := .canvas ⟨false, 256 * n, 0, 256, 256, .deg0, false⟩
  ((((Table.replicate 16 Plan.none).set 0 (big 0)).set 1 (big 1)).set 2 (big 2)).set 3 (big 3)

theorem test_meets_WritePlanChecksInOrder :
    hung.serves .ua ∧ hung.mayEdit .ua ∧ 15 < (16 : Byte).toNat ∧ (15 : Byte).toNat < 16 ∧
    decodePlan { rawCanvas 0 0 with kind := 5 } = none ∧
    decodePlan (rawCanvas 4081 0) = some (.canvas { canvas16 with line := 4081 }) ∧ 4096 < 4081 + canvas16.height ∧
    decodePlan (rawCanvas 4080 4080) = some (.canvas { canvas16 with line := 4080, column := 4080 }) ∧
    4080 + canvas16.height ≤ 4096 ∧ hung.plans.get 0 = .canvas canvas16 ∧ (canvas16.native 15 15).isSome = true ∧
    (({ canvas16 with line := 15, column := 15 } : CanvasPlan).native 15 15).isSome = true ∧
    totalArea fullPlans = 262144 ∧ 262144 < totalArea (fullPlans.set 15 (.canvas { canvas16 with line := 1024 })) ∧
    decodePlan { rawCanvas 0 0 with kind := 2, target := 15 } = some (.mirror false 15) ∧
    (hung.plans.get 15).isCanvas = false := by
  unfold State.serves State.listens State.mayEdit; decide

/-- Check 2: entries in their ranges, at their bounds, and one step outside. -/
theorem test_meets_WritePlanChecksInOrder_ranges :
    (∀ e ∈ [rawCanvas 4095 4095, { rawCanvas 0 0 with kind := 0, dark := 2, line := 5000 },
      { rawCanvas 0 0 with kind := 4, pitch := 64, colour := ⟨4095, 0, 0⟩ }], entryInRange e) ∧
    ∀ e ∈ [{ rawCanvas 0 0 with kind := 5 }, rawCanvas 4096 0, { rawCanvas 0 0 with width := 20 },
      { rawCanvas 0 0 with dark := 2 }, { rawCanvas 0 0 with kind := 2, target := 16 },
      { rawCanvas 0 0 with kind := 3, colour := ⟨4096, 0, 0⟩ }, { rawCanvas 0 0 with kind := 4, pitch := 65 }],
      ¬ entryInRange e := by
  dsimp only [entryInRange]; decide

/-- A size check of every CANVAS entry is the second half of the plan law. -/
theorem canvas_sizes {plans : Table Plan 16}
    (h : ∀ k, (match plans.get k with
      | .canvas c => decide (16 ≤ c.width ∧ c.width ≤ 256 ∧ 16 ≤ c.height ∧ c.height ≤ 256)
      | _ => true) = true) :
    ∀ k c, plans.get k = .canvas c → 16 ≤ c.width ∧ c.width ≤ 256 ∧ 16 ≤ c.height ∧ c.height ≤ 256 := by
  intro k c hk
  have := h k
  rw [hk] at this
  exact of_decide_eq_true this

theorem test_meets_WritePlanChecksInOrder_full :
    (hung.withPlans fullPlans).serves .ua ∧ planLaw (hung.withPlans fullPlans) := by
  refine ⟨?_, by decide, canvas_sizes (by decide)⟩
  unfold State.serves State.listens; decide

theorem test_meets_AcceptedPlanTakesEffect :
    hung.serves .ua ∧ hung.mayEdit .ua ∧ decodePlan (rawCanvas 0 16) = some (.canvas { canvas16 with column := 16 }) ∧
    planRefusal hung.plans 15 (.canvas { canvas16 with column := 16 }) = none ∧
    planRefusal hung.plans 0 (.canvas canvas16) = none ∧ hung.plans.get 0 = .canvas canvas16 ∧
    planRefusal hung.plans 0 .none = none ∧ (hung.tile 0).presence ≠ .empty ∧ (hung.tile 15).presence = .empty ∧
    geometryChanged (hung.plans.get 0) .none = true ∧ geometryChanged (hung.plans.get 0) (.canvas canvas16) = false ∧
    hung.plans.get 2 = .mirror true 0 := by
  unfold State.serves State.listens State.mayEdit; decide

/-- An identified slot under a new plan: it stays, enters MISFIT, and from MISFIT enters UNKNOWN or MATCHED. -/
theorem test_meets_AcceptedPlanTakesEffect_judged :
    planRefusal hung.plans 0 (.flat false ⟨1, 2, 3⟩) = none ∧ hung.plans.get 0 ≠ .flat false ⟨1, 2, 3⟩ ∧
    (hung.tile 0).presence.identified = true ∧ (hung.tile 0).facts = some { facts16 with serial := 2 } ∧
    testedAs (.flat false ⟨1, 2, 3⟩) hung.records { facts16 with serial := 2 } = (hung.tile 0).presence ∧
    testedAs (.canvas { canvas16 with width := 24 }) hung.records { facts16 with serial := 2 } = .misfit ∧
    planRefusal hung.plans 0 (.canvas { canvas16 with width := 24 }) = none ∧
    ((hung.withTile 0 ⟨.misfit, some facts16, none⟩).tile 0).presence.identified = true ∧
    testedAs (.flat false ⟨1, 2, 3⟩) hung.records facts16 = .matched ∧
    ((hung.withTile 0 ⟨.misfit, some { facts16 with serial := 2 }, none⟩).tile 0).presence ≠ .unknown := by decide

theorem test_meets_WriteBandChecksAndClamps :
    hung.serves .ua ∧ hung.mayEdit .ua ∧ 15 < (16 : Byte).toNat ∧ 3 < (4 : Byte).toNat ∧ (15 : Byte).toNat < 16 ∧
    (3 : Byte).toNat < 4 ∧ 1 < (2 : Byte).toNat ∧ (1 : Byte).toNat ≤ 1 ∧ (4 : Byte).toNat < (5 : Byte).toNat ∧
    (5 : Byte).toNat ≤ (5 : Byte).toNat := by
  unfold State.serves State.listens State.mayEdit; decide

theorem test_meets_LoadProtocolCases :
    hung.serves .ua ∧ hung.mayEdit .ua ∧ hung.load = none ∧ (loading .ua [] hung).serves .ua ∧
    (loading .ua [] hung).load.isSome = true ∧ (∃ l ∈ (loading .ub [] hung).load, l.owner ≠ .ua) ∧
    (∃ l ∈ (loading .ua (List.replicate 222 0) hung).load, l.owner = .ua ∧ (222 : W16).toNat = l.words.length ∧
      l.words.length + [(0 : W16)].length ≤ 223 ∧ 223 < l.words.length + [(0 : W16), 0].length ∧
      (221 : W16).toNat ≠ l.words.length) := by
  unfold State.serves State.listens State.mayEdit; decide

theorem test_meets_LibCloseChecksAndInstalls :
    hung.serves .ua ∧ hung.mayEdit .ua ∧ hung.load = none ∧ (∃ l ∈ (loading .ub [] hung).load, l.owner ≠ .ua) ∧
    (∃ l ∈ (loading .ua (List.replicate 30 0) hung).load, l.owner = .ua ∧ l.words.length < 31) ∧
    (∃ l ∈ (loading .ua (List.replicate 31 65) hung).load, 31 ≤ l.words.length ∧ 64 < (l.words.getD 30 0).toNat) ∧
    (∃ l ∈ (loading .ua (List.replicate 33 1) hung).load, l.words.length < 31 + 3 * (l.words.getD 30 0).toNat) ∧
    (∃ l ∈ (loading .ua (List.replicate 32 0) hung).load, 31 + 3 * (l.words.getD 30 0).toNat < l.words.length) ∧
    (∃ l ∈ (loading .ua (List.replicate 31 0) hung).load, firstBadWord l.identity l.words = some 3) ∧
    (∃ l ∈ (loading .ua record16 hung).load, l.words.length = 31 + 3 * (l.words.getD 30 0).toNat ∧
      firstBadWord l.identity l.words = none ∧
      (hung.records.find? fun r => recIdentity r == l.identity).isSome = true) := by
  unfold State.serves State.listens State.mayEdit; decide

/-- A load whose words all pass, and one whose first word to fail is word 3. -/
theorem test_meets_LibCloseChecksAndInstalls_words :
    (∀ i, i < record16.length → recordWordPasses 1 record16 i) ∧ ¬ recordWordPasses 2 record16 3 ∧
    ∀ j, j < 3 → recordWordPasses 2 record16 j := by
  simp only [← wordPasses_iff]; decide

/-- A record of identity 3 with 64 defects by its count. -/
def record3 : Record := (record16.set 3 3).set 30 64

theorem test_meets_LibCloseChecksAndInstalls_full :
    firstBadWord 2 (record16.set 3 2) = none ∧
    ((List.replicate 48 record16).find? fun r => recIdentity r == (2 : W64)) = none ∧
    1024 - ((List.replicate 16 record3).map recDefects).sum < 1 ∧ (List.replicate 16 record3).length < 48 := by decide

theorem test_meets_LibraryChangesReachSlots :
    hung.serves .ua ∧ hung.mayEdit .ua ∧ (∀ r ∈ hung.records, recIdentity r ≠ 2) ∧ (∃ r ∈ hung.records, recIdentity r = 1) ∧
    (hung.records.map recIdentity).Nodup ∧ (hung.tile 2).presence = .matched ∧ (hung.tile 2).facts = some facts16 ∧
    facts16.serial = 1 ∧ (∀ f ∈ (hung.tile 0).facts, f.serial ≠ 1) ∧
    (hung.tile 1).facts = none := by
  unfold State.serves State.listens State.mayEdit; decide

/-- A LIB-CLOSE that installs the record of slot 0's UNKNOWN tile, or replaces that of slot 2's MATCHED tile, of the tile's
size or another. -/
theorem test_meets_LibraryChangesReachSlots_close :
    (hung.tile 0).presence = .unknown ∧ (hung.tile 0).facts = some { facts16 with serial := 2 } ∧
    (record16.set 3 2).length = 31 + 3 * ((record16.set 3 2).getD 30 0).toNat ∧ firstBadWord 2 (record16.set 3 2) = none ∧
    recWidth (record16.set 3 2) = facts16.width.toNat ∧ recHeight (record16.set 3 2) = facts16.height.toNat ∧
    (hung.records.find? fun r => recIdentity r == 2) = none ∧ hung.records.length < 48 ∧
    firstBadWord 1 record16 = none ∧ (hung.records.find? fun r => recIdentity r == 1).isSome = true ∧
    firstBadWord 1 (record16.set 4 24) = none ∧ recWidth (record16.set 4 24) ≠ facts16.width.toNat ∧
    (hung.tile 1).presence ≠ .matched ∧ (hung.tile 1).presence ≠ .unknown ∧
    ((after (.libClose .ua 0) ((loading .ua (record16.set 3 2) hung).withLoad
      (some ⟨.ua, 2, record16.set 3 2, 0⟩))).tile 0).presence = .matched ∧
    ((after (.libClose .ua 0) (loading .ua (record16.set 4 24) hung)).tile 2).presence = .unknown := by decide

theorem test_meets_LevelAndCauseEdits :
    hung.serves .ua ∧ hung.mayEdit .ua ∧ (65536 : W32).toNat ≤ 65536 ∧ 65536 < (65537 : W32).toNat ∧
    15 < (16 : Byte).toNat ∧ (15 : Byte).toNat < 16 ∧ 1 < (2 : Byte).toNat ∧ (1 : Byte).toNat ≤ 1 := by
  unfold State.serves State.listens State.mayEdit; decide

theorem test_meets_FlagRequestsTestAndChange :
    hung.serves .ua ∧ hung.flags.get 0 = false ∧ (held .ua hung).serves .ua ∧ (held .ua hung).flags.get 0 = true ∧
    (held .ua hung).holder = some .ua ∧ (held .ub hung).serves .ua ∧ (held .ub hung).holder ≠ some .ua ∧
    15 < (16 : Byte).toNat ∧ (15 : Byte).toNat < 16 ∧ 1 ≤ (1 : Byte).toNat := by
  unfold State.serves State.listens; decide

theorem test_meets_ProbeSlotsAndSenseSlot :
    hung.serves .ua ∧ hung.mayEdit .ua ∧ (0x8003 : W16).getLsbD 15 = true ∧ (0x8003 : W16).getLsbD 2 = false ∧
    (hung.tile 15).presence = .empty ∧ (hung.tile 0).presence.identified = true ∧ (hung.tile 1).presence = .absent ∧
    15 < (16 : Byte).toNat ∧ (15 : Byte).toNat < 16 ∧ (0 : SlotId) ∉ hung.query.senseList ∧
    (∀ q ∈ hung.query.outstanding, q.phase ≠ .waiting) ∧ hung.d.tx = none ∧ (sending 0x40 hung).d.tx ≠ none ∧
    (0 : SlotId) ∈ (hung.withQuery { hung.query with senseList := [0] }).query.senseList := by
  unfold State.serves State.listens State.mayEdit; decide

theorem test_meets_RequestsNotExecuted :
    editHead (.libPut .ua 1 0 (List.replicate 64 0)) = some (.ua, 1, 0x09) ∧ (held .ub hung).serves .ua ∧
    (held .ub hung).flags.get 0 = true ∧ (held .ub hung).holder ≠ some .ua ∧ 64 < (List.replicate 65 (0 : W16)).length ∧
    (queued 32 hung).listens .ua ∧ (queued 32 hung).restart = none ∧ 32 ≤ ((queued 32 hung).up .ua).queue.length ∧
    (restarting false hung).listens .ua ∧ (restarting false hung).restart.isSome = true ∧
    (((restarting false hung).withWaiting (List.replicate 3 (.readLevel .ua 0))).waiting.filter
      fun j => decide (Instr.requestPort j = some .ua)).length < 4 ∧
    4 ≤ (((restarting false hung).withWaiting (List.replicate 4 (.readLevel .ua 0))).waiting.filter
      fun j => decide (Instr.requestPort j = some .ua)).length := by
  unfold State.serves State.listens; decide

theorem test_meets_RestartIsCarriedOutOrWaits :
    hung.serves .ua ∧ hung.mayEdit .ua ∧ (∀ c ∈ hung.d.tx, c.kind ≠ 0x41) ∧ (sending 0x41 scanning).serves .ua ∧
    (sending 0x41 scanning).mayEdit .ua ∧ (∃ c ∈ (sending 0x41 scanning).d.tx, c.kind = 0x41) := by
  unfold State.serves State.listens State.mayEdit; decide

theorem test_meets_WaitingRestartIsCarriedOutAtScanEnd :
    (restarting false hung).restart = some ⟨.ua, 4, false, false, 0⟩ ∧
    (restarting true hung).restart = some ⟨.ua, 4, true, false, 0⟩ ∧ (restarting true hung).waiting = [] ∧
    ((restarting true hung).up .ua).state ≠ .down ∧ ((restarting true (fallenUa 0)).up .ua).state = .down := by decide

/-- A BLANKn assertion kept, and two requests waiting at a port that hears each cell well. -/
theorem test_meets_WaitingRestartIsCarriedOutAtScanEnd_more :
    (hung.withRestart (some ⟨.ua, 4, true, false, 1⟩)).restart = some ⟨.ua, 4, true, false, 1⟩ ∧
    (hung.withRestart (some ⟨.ua, 4, true, true, 1⟩)).restart = some ⟨.ua, 4, true, true, 1⟩ ∧
    ((restarting true hung).withWaiting [.readLevel .ub 1, .setLevel .ua 2 0]).waiting =
      [.readLevel .ub 1] ++ [.setLevel .ua 2 0] ∧
    Instr.requestPort (.setLevel .ua 2 0) = some .ua ∧ (restarting true hung).listens .ua ∧
    ((restarting true hung).up .ua).goodRun = 8 ∧ ((restarting true hung).up .ua).failedRun = 0 := by
  unfold State.listens; decide

/-- A state in which UNKNOWN-TILE is pending and enabled at a level. -/
def caused (level : Nat) (s : State) : State :=
  s.withCauses (s.causes.set Cause.unknownTile.number ⟨true, false, true, level, some 0, 1⟩)

theorem test_meets_RaiseCountsOrMakesPending :
    (hung.causes.get Cause.unknownTile.number).pending = false ∧
    ((caused 3 hung).causes.get Cause.unknownTile.number).pending = true := by decide

theorem test_meets_OfferPlacesOneNotice :
    (restarting false (caused 1 hung)).restart.isSome = true ∧
    (caused 1 hung).restart = none ∧ (caused 1 hung).noticePlaced = false ∧
    ((caused 1 hung).causes.get Cause.unknownTile.number).pending = true ∧
    (caused 1 hung).setting 16 < ((caused 1 hung).causes.get Cause.unknownTile.number).level ∧
    ¬ (caused 0 hung).setting 16 < ((caused 0 hung).causes.get Cause.unknownTile.number).level ∧
    ((queued 31 hung).up .ua).queue.length < 32 ∧ ¬ ((queued 32 hung).up .ua).queue.length < 32 ∧
    (hung.up .ub).state ≠ .down := by decide

theorem test_meets_FaultLineFollowsCauses :
    (caused 3 hung).faultAsserted = true ∧ (caused 2 hung).faultAsserted = false := by decide

theorem test_meets_PixelPipelineIsExact :
    (16 ≤ 16 ∧ 1 ≤ 16) ∧ (2000 - 8 ≤ 2000 ∧ 1800 - 8 ≤ 2000 ∧ 1500 - 10 ≤ 2000) ∧
    ¬ (2000 - 8 ≤ 16 ∧ 1800 - 8 ≤ 16 ∧ 1500 - 10 ≤ 16) := by decide

/-- One enabled band over every column of line 0, its gains at both bounds. -/
def oneBand : Table Band 4 := (Table.replicate 4 Band.reset).set 0 ⟨true, 0, 0, 0, 0x00100000, 0, 0, 2048, 6144⟩

theorem test_meets_BandFactorStaysInRange :
    (∀ i, (oneBand.get i).enabled = true → 2048 ≤ (oneBand.get i).startGain.toNat ∧
      (oneBand.get i).startGain.toNat ≤ 6144 ∧ 2048 ≤ (oneBand.get i).endGain.toNat ∧
      (oneBand.get i).endGain.toNat ≤ 6144) ∧
    (∃ l ∈ bandLines oneBand 0, l.covers 16 0 = true) ∧ (∀ l ∈ bandLines oneBand 1, l.covers 16 0 = false) ∧
    (∀ l ∈ bandLines (oneBand.set 3 (oneBand.get 0)) 0, l.covers 16 15 = true) ∧
    (bandLines (oneBand.set 3 (oneBand.get 0)) 0).length = 2 := by decide

theorem test_meets_DefectsAndBlackOverridesDecideSentValues :
    (0 < [(⟨1, 1, 1⟩ : Rgb Nat), ⟨2, 2, 2⟩].length ∧ 2 ≤ [(⟨1, 1, 1⟩ : Rgb Nat), ⟨2, 2, 2⟩].length) ∧
    (∀ d ∈ [(⟨0, 0, .neighbour⟩ : Defect)], ∀ e ∈ [(⟨0, 0, .neighbour⟩ : Defect)], e = d) ∧
    (∀ d ∈ [(⟨0, 0, .dark⟩ : Defect)], d.line = 0 → d.column ≠ 1) ∧
    ((bind hung).slots.get 2).dark = true ∧ (bind (hung.withEngine { hung.engine with display := .blanked })).display = .blanked ∧
    (bind (hung.withEngine { hung.engine with blank := true })).blank = true := by decide

theorem test_meets_TargetFactorFormula :
    (hung.tile 2).presence = .matched ∧ (hung.tile 2).facts = some facts16 ∧
    findRecord hung.records facts16.serial = some record16 ∧ (hung.tile 0).presence = .unknown ∧
    (hung.drift.get 0).reading = none ∧
    ((hung.withDriftOf 0 { Drift.reset with reading := some ⟨-160, 9, false⟩ }).drift.get 0).reading.isSome = true := by
  decide

theorem test_meets_SentCellIsReceivedWhole : ([0, 5] : List Byte).length ≤ 4095 := by decide

theorem test_meets_StoredPlanReadsBackAsItself :
    canvas16.line ≤ 4095 ∧ canvas16.column ≤ 4095 ∧ 16 ≤ canvas16.width ∧ canvas16.width ≤ 256 ∧ canvas16.width % 8 = 0 ∧
    16 ≤ canvas16.height ∧ canvas16.height ≤ 256 ∧ canvas16.height % 8 = 0 := by decide

/-- The laws hold of a state with a run of tiles, and a step from it answers a next state. -/
theorem test_meets_PlanImageAndLibraryLawsAreKept :
    planLaw hung ∧ imageLaw hung ∧ libraryLaw hung ∧ (match step hung with | .next _ => true | _ => false) = true := by
  refine ⟨⟨by decide, canvas_sizes (by decide)⟩, ?_, ?_, by decide⟩
  · unfold imageLaw; decide
  · unfold libraryLaw; decide

theorem test_meets_OwnershipLawsAreKept :
    waitingLaw (loading .ua [1] (held .ua hung)) ∧ editFlagLaw (loading .ua [1] (held .ua hung)) ∧
    loadLaw (loading .ua [1] (held .ua hung)) := by
  refine ⟨fun i h => (nomatch h), ⟨by decide, ?_⟩, ?_⟩
  · show ∀ p, p ∈ (held .ua hung).holder → ((held .ua hung).up p).state ≠ .down
    decide
  · show ∀ l, l ∈ (loading .ua [1] hung).load → _
    decide

theorem test_meets_CauseSettingAndDriftLawsAreKept : causeLaw (caused 3 hung) ∧ settingLaw hung ∧ driftLaw hung := by
  unfold causeLaw settingLaw driftLaw factorsInRange; decide

theorem test_meets_SlotLawsAreKept :
    slotLaw (asking .probe 1 .sending hung) ∧ tagLaw (asking .probe 1 .sending hung) ∧ matchLaw hung := by
  refine ⟨⟨by decide, ?_, by decide, by decide⟩, ?_, ?_⟩
  · show ∀ q, q ∈ (asking .probe 1 .sending hung).query.outstanding → _
    intro q h
    cases (show some (⟨.probe, 1, 7, .sending⟩ : Query) = some q from h)
    decide
  · intro q h
    cases (show some (⟨.probe, 1, 7, .sending⟩ : Query) = some q from h)
    rfl
  · show ∀ k, (hung.tile k).presence = .matched → ∃ f, f ∈ (hung.tile k).facts ∧ _
    decide

theorem test_meets_SourceAndPortLawsAreKept : sourceLaw receiving ∧ portLaw receiving := by
  refine ⟨⟨?_, by decide, ?_, by decide⟩, ?_⟩
  · intro p h; cases (show some Up.ua = some p from h); decide
  · intro p h; exact nomatch (show (none : Option Up) = some p from h)
  · intro p; cases p <;> decide

theorem test_meets_CountAndEngineLawsAreKept : countLaw (queued 31 hung) ∧ engineLaw scanning ∧ engineLaw hung := by
  refine ⟨⟨?_, ?_, by decide⟩, ?_, ?_⟩
  · intro p; cases p <;> decide
  · intro w h; exact nomatch (show (none : Option RestartWait) = some w from h)
  · unfold engineLaw; decide
  · unfold engineLaw; decide

end Sys2Proof.Machine.Tests
end

section
/-! PROOFS. Tile alerts (R17, R186): which ports take one and which drop it, what forwarding to one port does, the state a
tile alert taken on D leaves, and O9. -/

namespace Sys2Proof.Machine

/-! ## The ports that take an alert, and those that drop it -/

/-- The port is not DOWN, has a free place and did not send a RESTART that waits (R17, R186). -/
def State.takesAlert (s : State) (p : Up) : Bool := s.takesCells p && (s.hasRoom p && !awaitsRestart s p)

/-- The port is not DOWN and cannot take an alert: the alert is lost to it and counted (R10, R17). -/
def State.dropsAlert (s : State) (p : Up) : Bool := s.takesCells p && !s.takesAlert p

theorem State.takesCells_iff (s : State) (p : Up) : s.takesCells p = true ↔ (s.up p).state ≠ .down :=
  bne_iff_ne

theorem State.hasRoom_iff (s : State) (p : Up) : s.hasRoom p = true ↔ (s.up p).queue.length < 32 :=
  decide_eq_true_iff

theorem awaitsRestart_eq_false_iff (s : State) (p : Up) :
    awaitsRestart s p = false ↔ ∀ w, s.restart = some w → w.port ≠ p := by
  unfold awaitsRestart
  cases s.restart with
  | none => simp
  | some w => simp

theorem State.takesAlert_iff (s : State) (p : Up) :
    s.takesAlert p = true ↔ (s.up p).state ≠ .down ∧ (s.up p).queue.length < 32 ∧
      ∀ w, s.restart = some w → w.port ≠ p := by
  rw [State.takesAlert, Bool.and_eq_true, Bool.and_eq_true, Bool.not_eq_true', State.takesCells_iff, State.hasRoom_iff,
    awaitsRestart_eq_false_iff]

theorem State.dropsAlert_iff (s : State) (p : Up) :
    s.dropsAlert p = true ↔ (s.up p).state ≠ .down ∧ ¬ s.takesAlert p = true := by
  rw [State.dropsAlert, Bool.and_eq_true, Bool.not_eq_true', State.takesCells_iff, Bool.not_eq_true]

/-! ## Forwarding to one port -/

/-- What a port keeps once an alert has been forwarded to it. -/
def State.alertedPort (s : State) (c : Cell) (p : Up) : Upstream :=
  if s.takesAlert p then { s.up p with queue := (s.up p).queue ++ [c] } else s.up p

/-- The dropped-alerts tally once an alert has been forwarded to a port. -/
def State.alertTally (s : State) (p : Up) (n : Nat) : Nat := if s.dropsAlert p then tallied n else n

theorem State.withUp_up_eq_self (s : State) (p : Up) : s.withUp p (s.up p) = s := by
  cases p <;> rfl

/-- The three branches of `forwardAlert` in one equation: the port and the tally each follow their rule, and nothing else
changes. -/
theorem forwardAlert_eq (c : Cell) (p : Up) (s : State) :
    forwardAlert c p s = (s.withUp p (s.alertedPort c p)).withD { s.d with dropped := s.alertTally p s.d.dropped } := by
  cases hcells : s.takesCells p with
  | false =>
    simp only [forwardAlert, State.alertedPort, State.alertTally, State.dropsAlert, State.takesAlert, hcells,
      Bool.false_and, Bool.not_false, if_true, Bool.false_eq_true, if_false, State.withUp_up_eq_self]
    rfl
  | true =>
    cases hplace : s.hasRoom p && !awaitsRestart s p with
    | true =>
      simp only [forwardAlert, State.alertedPort, State.alertTally, State.dropsAlert, State.takesAlert, hcells, hplace,
        Bool.and_self, Bool.not_true, Bool.and_false, if_true, Bool.false_eq_true, if_false, State.enqueue]
      cases p <;> rfl
    | false =>
      simp only [forwardAlert, State.alertedPort, State.alertTally, State.dropsAlert, State.takesAlert, hcells, hplace,
        Bool.and_false, Bool.not_true, Bool.not_false, Bool.and_self, if_true, Bool.false_eq_true, if_false,
        State.withUp_up_eq_self]
      rfl

/-! ## The state a tile alert leaves -/

/-- The state a tile alert taken on D leaves: whether each port takes it is read in the state in which it arrived. -/
def State.alerted (s : State) (c : Cell) : State :=
  ((s.withUa (s.alertedPort c .ua)).withUb (s.alertedPort c .ub)).withD
    { s.heardD.d with dropped := s.alertTally .ub (s.alertTally .ua s.d.dropped) }

theorem State.alerted_up (s : State) (c : Cell) (p : Up) : (s.alerted c).up p = s.alertedPort c p := by
  cases p <;> rfl

theorem State.alerted_dropped (s : State) (c : Cell) :
    (s.alerted c).d.dropped = s.alertTally .ub (s.alertTally .ua s.d.dropped) := rfl

/-- UA is served first; neither its queue nor the tally decides what UB does, so the two forwardings compose. -/
theorem exec_tileAlert (tag : W16) (payload : List Byte) {s : State} (h : s.listensD) :
    exec (.tileAlert tag payload) s = .next (s.alerted ⟨0x3F, tag, payload⟩) := by
  have hexec : exec (.tileAlert tag payload) s = execTileAlert tag payload s := rfl
  rw [hexec, execTileAlert, dCell_listens _ h, forwardAlert_eq, forwardAlert_eq]
  rfl

/-- Settles O9: a tile alert leaves `State.alerted`, whose ports and tally are read off case by case. -/
theorem tileAlertIsForwarded : Obligations.TileAlertIsForwarded := by
  unfold Obligations.TileAlertIsForwarded
  intro tag payload s h
  simp only [← State.takesAlert_iff, ← State.dropsAlert_iff]
  refine ⟨s.alerted ⟨0x3F, tag, payload⟩, exec_tileAlert tag payload h, ?_, ?_, ?_, ?_, ?_, rfl⟩
  · intro p htakes
    rw [State.alerted_up, State.alertedPort, if_pos htakes]
  · intro p htakes
    rw [State.alerted_up, State.alertedPort, if_neg htakes]
  · intro hua hub
    rw [State.alerted_dropped, State.alertTally, State.alertTally, if_pos hua, if_pos hub]
  · intro p hdrops hother
    rw [State.alerted_dropped, State.alertTally, State.alertTally]
    cases p with
    | ua =>
      have hub : ¬ s.dropsAlert .ub = true := hother
      rw [if_neg hub, if_pos hdrops]
    | ub =>
      have hua : ¬ s.dropsAlert .ua = true := hother
      rw [if_pos hdrops, if_neg hua]
  · intro hua hub
    rw [State.alerted_dropped, State.alertTally, State.alertTally, if_neg hua, if_neg hub]

end Sys2Proof.Machine
end

section
/-! PROOFS. Table reads (R23, R125, R181): the index bytes in and out of range, the answer of each read in either case, and
O29. -/

namespace Sys2Proof.Machine

/-! ## Index bytes -/

theorem slotOf_eq_some {b : Byte} (h : b.toNat < 16) : slotOf b = some ⟨b.toNat, h⟩ := dif_pos h

theorem slotOf_eq_none {b : Byte} (h : 15 < b.toNat) : slotOf b = none := dif_neg (by omega)

theorem settingOf_eq_some {b : Byte} (h : b.toNat < 17) : settingOf b = some ⟨b.toNat, h⟩ := dif_pos h

theorem settingOf_eq_none {b : Byte} (h : 16 < b.toNat) : settingOf b = none := dif_neg (by omega)

theorem bandIndex_eq_some {slot band : Byte} (hslot : slot.toNat < 16) (hband : band.toNat < 4) :
    bandIndex slot band = some (⟨slot.toNat, hslot⟩, ⟨band.toNat, hband⟩) := by
  simp only [bandIndex, slotOf_eq_some hslot, dif_pos hband]

/-- A slot in range does not save a band out of range, nor the other way round. -/
theorem bandIndex_eq_none {slot band : Byte} (h : 15 < slot.toNat ∨ 3 < band.toNat) : bandIndex slot band = none := by
  by_cases hslot : slot.toNat < 16
  · have hband : ¬ band.toNat < 4 := by omega
    simp only [bandIndex, slotOf_eq_some hslot, dif_neg hband]
  · have hbeyond : 15 < slot.toNat := by omega
    simp only [bandIndex, slotOf_eq_none hbeyond]

/-- A setting number in range comes back as the byte that named it. -/
theorem settingBytes_toNat {n : Byte} (h : n.toNat < 17) (v : Int) :
    settingBytes ⟨n.toNat, h⟩ v = n :: beBytes 4 (BitVec.ofInt 32 v).toNat := by
  simp only [settingBytes, byte1, BitVec.ofNat_toNat, BitVec.setWidth_eq]

/-! ## The answer of each read, from the state in which its cell has been counted -/

theorem readSettingAnswer_heard_of_lt {n : Byte} (h : n.toNat < 17) (s : State) (p : Up) :
    readSettingAnswer n (s.heard p) =
      .ok (n :: beBytes 4 (BitVec.ofInt 32 (s.settings.get ⟨n.toNat, h⟩)).toNat) := by
  simp only [readSettingAnswer, settingOf_eq_some h, settingBytes_toNat, State.setting, State.heard_fields]

theorem readSettingAnswer_of_gt {n : Byte} (h : 16 < n.toNat) (s : State) :
    readSettingAnswer n s = .refuse .badIndex := by
  simp only [readSettingAnswer, settingOf_eq_none h]

theorem readPlanAnswer_heard_of_lt {slot : Byte} (h : slot.toNat < 16) (s : State) (p : Up) :
    readPlanAnswer slot (s.heard p) = .ok (slot :: (s.plans.get ⟨slot.toNat, h⟩).bytes) := by
  simp only [readPlanAnswer, slotOf_eq_some h, State.heard_fields]

theorem readPlanAnswer_of_gt {slot : Byte} (h : 15 < slot.toNat) (s : State) :
    readPlanAnswer slot s = .refuse .badIndex := by
  simp only [readPlanAnswer, slotOf_eq_none h]

theorem readBandAnswer_heard_of_lt {slot band : Byte} (hslot : slot.toNat < 16) (hband : band.toNat < 4) (s : State)
    (p : Up) : readBandAnswer slot band (s.heard p) =
      .ok (slot :: band :: ((s.bands.get ⟨slot.toNat, hslot⟩).get ⟨band.toNat, hband⟩).bytes) := by
  simp only [readBandAnswer, bandIndex_eq_some hslot hband, State.heard_fields]

theorem readBandAnswer_of_gt {slot band : Byte} (h : 15 < slot.toNat ∨ 3 < band.toNat) (s : State) :
    readBandAnswer slot band s = .refuse .badIndex := by
  simp only [readBandAnswer, bandIndex_eq_none h]

/-- Settles O29: each command is a read (`exec_read`), so its next state is fixed by its answer. -/
theorem tableReadsAnswerStoredValues : Obligations.TableReadsAnswerStoredValues := by
  unfold Obligations.TableReadsAnswerStoredValues
  intro p tag n slot band s hserves
  refine ⟨?_, ?_, ?_, ?_, ?_, ?_⟩
  · intro hn
    exact exec_read rfl hserves (readSettingAnswer_heard_of_lt hn s p)
  · intro hn
    exact exec_read rfl hserves (readSettingAnswer_of_gt hn (s.heard p))
  · intro hslot
    exact exec_read rfl hserves (readPlanAnswer_heard_of_lt hslot s p)
  · intro hslot
    exact exec_read rfl hserves (readPlanAnswer_of_gt hslot (s.heard p))
  · intro hslot hband
    exact exec_read rfl hserves (readBandAnswer_heard_of_lt hslot hband s p)
  · intro hbeyond
    exact exec_read rfl hserves (readBandAnswer_of_gt hbeyond (s.heard p))

end Sys2Proof.Machine
end

section
/-! PROOFS. Library reads (R95, R96): the answer of LIB-READ and of LIB-LIST under each of their checks, and O30. -/

namespace Sys2Proof.Machine

/-- The library a request reads is the one held when its cell came. -/
theorem State.heard_records (s : State) (p : Up) : (s.heard p).records = s.records := by
  simp only [State.heard_fields]

/-! ## LIB-READ -/

theorem libReadAnswer_of_count {count : Byte} (h : count.toNat = 0 ∨ 64 < count.toNat) (id : W64) (first : W16)
    (s : State) : libReadAnswer id first count s = .refuse .badValue := by
  rw [libReadAnswer, if_pos h]

/-- With a count in range the answer is decided by the record of the identity. -/
theorem libReadAnswer_of_findRecord_none {count : Byte} (hone : 1 ≤ count.toNat) (hmax : count.toNat ≤ 64) {id : W64}
    {s : State} (hrec : findRecord s.records id = none) (first : W16) :
    libReadAnswer id first count s = .refuse .noRecord := by
  have hcount : ¬ (count.toNat = 0 ∨ 64 < count.toNat) := by omega
  rw [libReadAnswer, if_neg hcount, hrec]

theorem libReadAnswer_of_length_le {count : Byte} (hone : 1 ≤ count.toNat) (hmax : count.toNat ≤ 64) {id : W64}
    {s : State} {r : Record} (hrec : findRecord s.records id = some r) {first : W16} (hfirst : r.length ≤ first.toNat) :
    libReadAnswer id first count s = .refuse .badIndex := by
  have hcount : ¬ (count.toNat = 0 ∨ 64 < count.toNat) := by omega
  simp only [libReadAnswer, if_neg hcount, hrec, if_pos hfirst]

/-- The number answered is that of the words taken: the count, or what the record has left. -/
theorem libReadAnswer_of_lt_length {count : Byte} (hone : 1 ≤ count.toNat) (hmax : count.toNat ≤ 64) {id : W64}
    {s : State} {r : Record} (hrec : findRecord s.records id = some r) {first : W16} (hfirst : first.toNat < r.length) :
    libReadAnswer id first count s =
      .ok (be16 first ++ [BitVec.ofNat 8 (min count.toNat (r.length - first.toNat))] ++
        ((r.drop first.toNat).take count.toNat).flatMap be16) := by
  have hcount : ¬ (count.toNat = 0 ∨ 64 < count.toNat) := by omega
  simp only [libReadAnswer, if_neg hcount, hrec, if_neg (Nat.not_le.2 hfirst), byte1, List.length_take, List.length_drop]

/-! ## LIB-LIST -/

theorem libListAnswer_of_gt {first : Byte} (h : 47 < first.toNat) (count : Byte) (s : State) :
    libListAnswer first count s = .refuse .badIndex := by
  rw [libListAnswer, if_pos h]

theorem libListAnswer_of_count {first count : Byte} (hfirst : first.toNat ≤ 47)
    (h : count.toNat = 0 ∨ 48 < count.toNat) (s : State) : libListAnswer first count s = .refuse .badValue := by
  rw [libListAnswer, if_neg (Nat.not_lt.2 hfirst), if_pos h]

theorem libListAnswer_of_le {first count : Byte} (hfirst : first.toNat ≤ 47) (hone : 1 ≤ count.toNat)
    (hmax : count.toNat ≤ 48) (s : State) :
    libListAnswer first count s =
      .ok (BitVec.ofNat 8 s.records.length :: first ::
        ((s.records.drop first.toNat).take count.toNat).flatMap fun r => beBytes 8 (recIdentity r).toNat) := by
  have hcount : ¬ (count.toNat = 0 ∨ 48 < count.toNat) := by omega
  rw [libListAnswer, if_neg (Nat.not_lt.2 hfirst), if_neg hcount]
  rfl

/-- Settles O30: both commands are reads (`exec_read`), so each clause is the answer under its checks. -/
theorem libraryReadsAnswerRecords : Obligations.LibraryReadsAnswerRecords := by
  unfold Obligations.LibraryReadsAnswerRecords
  intro p tag id first from_ count s hserves
  rw [← State.heard_records s p]
  refine ⟨?_, ?_, ?_, ?_, ?_, ?_, ?_⟩
  · intro hcount
    exact exec_read rfl hserves (libReadAnswer_of_count hcount id first (s.heard p))
  · intro hone hmax hrec
    exact exec_read rfl hserves (libReadAnswer_of_findRecord_none hone hmax hrec first)
  · intro r hone hmax hrec hfirst
    exact exec_read rfl hserves (libReadAnswer_of_length_le hone hmax hrec hfirst)
  · intro r hone hmax hrec hfirst
    exact exec_read rfl hserves (libReadAnswer_of_lt_length hone hmax hrec hfirst)
  · intro hfrom
    exact exec_read rfl hserves (libListAnswer_of_gt hfrom count (s.heard p))
  · intro hfrom hcount
    exact exec_read rfl hserves (libListAnswer_of_count hfrom hcount (s.heard p))
  · intro hfrom hone hmax
    exact exec_read rfl hserves (libListAnswer_of_le hfrom hone hmax (s.heard p))

end Sys2Proof.Machine
end

section
/-! PROOFS. The load protocol (R85, R86, R91): what LIB-OPEN, LIB-PUT and LIB-ABORT do to the open load in each case, and
O36. -/

namespace Sys2Proof.Machine

/-- The load a request finds open is the one that was open when its cell came. -/
theorem State.heard_load (s : State) (p : Up) : (s.heard p).load = s.load := by
  simp only [State.heard_fields]

theorem State.heard_clock (s : State) (p : Up) : (s.heard p).clock = s.clock := by
  simp only [State.heard_fields]

/-! ## LIB-OPEN -/

theorem libOpenBody_of_load {s : State} (h : s.load.isSome = true) (p : Up) (id : W64) :
    libOpenBody p id s = (s, .refuse .busy) := by
  rw [libOpenBody, if_pos h]

theorem libOpenBody_of_zero {s : State} (h : s.load = none) (p : Up) : libOpenBody p 0 s = (s, .refuse .badValue) := by
  simp only [libOpenBody, h, Option.isSome_none, Bool.false_eq_true, if_false, if_true]

theorem libOpenBody_of_ne_zero {s : State} (h : s.load = none) {id : W64} (hid : id ≠ 0) (p : Up) :
    libOpenBody p id s = (s.withLoad (some ⟨p, id, [], s.clock⟩), .ok (beBytes 8 id.toNat)) := by
  simp only [libOpenBody, h, Option.isSome_none, Bool.false_eq_true, if_false, if_neg hid]

/-! ## LIB-PUT -/

/-- A LIB-PUT of 1 to 64 words is an edit (R172). -/
theorem libPutReq_of_form {words : List W16} (hone : 1 ≤ words.length) (hmax : words.length ≤ 64) (p : Up)
    (tag pointer : W16) : libPutReq p tag pointer words = editRequest p tag 0x09 (libPutBody p pointer words) := by
  have hform : ¬ (words.length = 0 ∨ 64 < words.length) := by omega
  rw [libPutReq, if_neg hform]

theorem libPutBody_of_no_load {s : State} (h : s.load = none) (p : Up) (pointer : W16) (words : List W16) :
    libPutBody p pointer words s = (s, ⟨.sequence, [0xFF, 0xFF]⟩) := by
  simp only [libPutBody, h]
  rfl

theorem libPutBody_of_other {s : State} {l : Load} (h : s.load = some l) {p : Up} (howner : l.owner ≠ p) (pointer : W16)
    (words : List W16) : libPutBody p pointer words s = (s, .refuse .busy) := by
  simp only [libPutBody, h, if_pos howner]

theorem libPutBody_of_pointer_ne {s : State} {l : Load} (h : s.load = some l) {pointer : W16}
    (hpointer : pointer.toNat ≠ l.words.length) (words : List W16) :
    libPutBody l.owner pointer words s = (s, ⟨.sequence, beBytes 2 l.words.length⟩) := by
  simp only [libPutBody, h, if_neg (not_not.2 rfl), if_pos hpointer, pointerBytes]

theorem libPutBody_of_overflow {s : State} {l : Load} (h : s.load = some l) {pointer : W16}
    (hpointer : pointer.toNat = l.words.length) {words : List W16}
    (hlong : Config.maxWords < l.words.length + words.length) :
    libPutBody l.owner pointer words s = (s, .refuse .badValue) := by
  simp only [libPutBody, h, if_neg (not_not.2 rfl), if_neg (not_not.2 hpointer), if_pos hlong]

theorem libPutBody_of_fits {s : State} {l : Load} (h : s.load = some l) {pointer : W16}
    (hpointer : pointer.toNat = l.words.length) {words : List W16}
    (hfits : l.words.length + words.length ≤ Config.maxWords) :
    libPutBody l.owner pointer words s =
      (s.withLoad (some { l with words := l.words ++ words }), .ok (beBytes 2 (l.words.length + words.length))) := by
  simp only [libPutBody, h, if_neg (not_not.2 rfl), if_neg (not_not.2 hpointer),
    if_neg (Nat.not_lt.2 hfits), pointerBytes, List.length_append]

/-! ## LIB-ABORT -/

theorem libAbortBody_of_no_load {s : State} (h : s.load = none) (p : Up) : libAbortBody p s = (s, .ok []) := by
  simp only [libAbortBody, h]

theorem libAbortBody_of_other {s : State} {l : Load} (h : s.load = some l) {p : Up} (howner : l.owner ≠ p) :
    libAbortBody p s = (s, .refuse .busy) := by
  simp only [libAbortBody, h, if_pos howner]

theorem libAbortBody_of_owner {s : State} {l : Load} (h : s.load = some l) :
    libAbortBody l.owner s = (s.withLoad none, .ok []) := by
  simp only [libAbortBody, h, if_neg (not_not.2 rfl)]

/-! ## The commands -/

/-- A LIB-PUT of 1 to 64 words that may be made, on a port that serves. -/
theorem exec_libPut {p : Up} {tag pointer : W16} {words : List W16} {s t : State} {a : Answer} (hserves : s.serves p)
    (hedit : s.mayEdit p) (hone : 1 ≤ words.length) (hmax : words.length ≤ 64)
    (hbody : libPutBody p pointer words (s.heard p) = (t, a)) :
    exec (.libPut p tag pointer words) s = .next (t.replied p tag 0x09 a.outcome a.data) :=
  exec_edit (congrArg some (libPutReq_of_form hone hmax p tag pointer)) hserves hedit hbody

/-- Settles O36: the three commands are edits (`exec_edit`, `exec_libPut`), so each clause is the body under its checks,
run on the state in which the cell has been counted. -/
theorem loadProtocolCases : Obligations.LoadProtocolCases := by
  unfold Obligations.LoadProtocolCases
  intro p tag id pointer words s hserves hedit hone hmax
  rw [← State.heard_load s p, ← State.heard_clock s p]
  refine ⟨?_, ?_, ?_, ?_, ?_, ?_, ?_⟩
  · intro hload
    exact exec_edit rfl hserves hedit (libOpenBody_of_load hload p id)
  · rintro hnone rfl
    exact exec_edit rfl hserves hedit (libOpenBody_of_zero hnone p)
  · intro hnone hid
    exact exec_edit rfl hserves hedit (libOpenBody_of_ne_zero hnone hid p)
  · intro hnone
    exact exec_libPut hserves hedit hone hmax (libPutBody_of_no_load hnone p pointer words)
  · intro hnone
    exact exec_edit rfl hserves hedit (libAbortBody_of_no_load hnone p)
  · intro l hload howner
    exact ⟨exec_libPut hserves hedit hone hmax (libPutBody_of_other hload howner pointer words),
      exec_edit rfl hserves hedit (libAbortBody_of_other hload howner)⟩
  · rintro l hload rfl
    refine ⟨?_, ?_, ?_, ?_⟩
    · exact exec_edit rfl hserves hedit (libAbortBody_of_owner hload)
    · intro hpointer
      exact exec_libPut hserves hedit hone hmax (libPutBody_of_pointer_ne hload hpointer words)
    · intro hpointer hlong
      exact exec_libPut hserves hedit hone hmax (libPutBody_of_overflow hload hpointer hlong)
    · intro hpointer hfits
      exact exec_libPut hserves hedit hone hmax (libPutBody_of_fits hload hpointer hfits)

end Sys2Proof.Machine
end

section
/-! PROOFS. The pixel pipeline, steps 1 to 7 (R104 to R114): the rounded quotients as floors, one channel of the matrix and
of the output scaling, the low-level test, and O48. -/

namespace Sys2Proof.Machine

/-! ## Rounding -/

/-- Over an even divisor, rounding half up is adding half the divisor before the division. -/
theorem roundHalfUp_two_mul (n h : Nat) : roundHalfUp n (2 * h) = (n + h) / (2 * h) := by
  have hdouble : 2 * n + 2 * h = 2 * (n + h) := by omega
  rw [roundHalfUp, hdouble, Nat.mul_div_mul_left _ _ (by decide : 0 < 2)]

/-- R108: a quotient of a sum that is not positive is clipped at 0. -/
theorem toNat_roundHalfAway_of_nonpos {v : Int} (h : v ≤ 0) (d : Nat) : (roundHalfAway v d).toNat = 0 := by
  rcases h.lt_or_eq with hneg | rfl
  · rw [roundHalfAway, if_pos hneg]
    omega
  · have hzero : roundHalfUp 0 d = 0 := by
      rcases d.eq_zero_or_pos with rfl | hd
      · rfl
      · exact Nat.div_eq_of_lt (by omega)
    rw [roundHalfAway, if_neg (lt_irrefl 0), Int.natAbs_zero, hzero]
    rfl

theorem toNat_roundHalfAway_of_pos {v : Int} (h : 0 < v) (d : Nat) :
    (roundHalfAway v d).toNat = roundHalfUp v.toNat d := by
  rw [roundHalfAway, if_neg (not_lt.2 h.le), Int.toNat_natCast, ← Int.toNat_of_nonneg h.le, Int.natAbs_natCast,
    Int.toNat_natCast]

/-! ## One channel -/

/-- R107, R108: the exact sum over 4096 with its one rounding, 0 where the sum is not positive. -/
theorem matrixChannel_eq (row : Rgb Int) (x : Rgb Nat) :
    matrixChannel row x =
      if row.r * x.r + row.g * x.g + row.b * x.b ≤ 0 then 0
      else ((row.r * x.r + row.g * x.g + row.b * x.b + 2048) / 4096).toNat := by
  rw [matrixChannel]
  generalize row.r * x.r + row.g * x.g + row.b * x.b = v
  split
  · next hnonpos => exact toNat_roundHalfAway_of_nonpos hnonpos 4096
  · next hpos =>
    rw [toNat_roundHalfAway_of_pos (not_le.1 hpos), roundHalfUp_two_mul _ 2048]
    omega

/-- R112: below depth 40 the divisor is even, so the one rounding adds half of it. -/
theorem scaleOutput_eq {depth : Nat} (h : depth ≤ 39) (m k beta : Nat) :
    scaleOutput m k beta depth = (m * k * beta + 2 ^ (39 - depth)) / 2 ^ (40 - depth) := by
  have hdivisor : 2 ^ (40 - depth) = 2 * 2 ^ (39 - depth) := by
    rw [← Nat.pow_succ']
    congr 1
    omega
  rw [scaleOutput, hdivisor, roundHalfUp_two_mul]

/-! ## The low-level test -/

/-- R105: the one decision of step 2 compares every channel with the threshold. -/
theorem largest_le_iff (x : Rgb Nat) (threshold : Nat) :
    largest x ≤ threshold ↔ x.r ≤ threshold ∧ x.g ≤ threshold ∧ x.b ≤ threshold := by
  rw [largest, max_le_iff, max_le_iff]

theorem mixChannels_of_low {x : Rgb Nat} {threshold : Nat}
    (h : x.r ≤ threshold ∧ x.g ≤ threshold ∧ x.b ≤ threshold) (matrix : Rgb (Rgb Int)) :
    mixChannels matrix threshold x = x :=
  if_pos ((largest_le_iff x threshold).2 h)

theorem mixChannels_of_not_low {x : Rgb Nat} {threshold : Nat}
    (h : ¬ (x.r ≤ threshold ∧ x.g ≤ threshold ∧ x.b ≤ threshold)) (matrix : Rgb (Rgb Int)) :
    mixChannels matrix threshold x =
      ⟨matrixChannel matrix.r x, matrixChannel matrix.g x, matrixChannel matrix.b x⟩ :=
  if_neg (mt (largest_le_iff x threshold).1 h)

/-! ## One pixel -/

/-- Steps 1 to 6 from the values that leave step 3. -/
theorem scaledPixel_of_mixed {c : Calibration} {threshold : Nat} {input mixed : Rgb Nat}
    (h : mixChannels c.matrix threshold (blackOffset input c.black) = mixed) (gain : Rgb Nat) (depth beta : Nat) :
    scaledPixel c gain threshold depth beta input =
      ⟨scaleOutput mixed.r gain.r beta depth, scaleOutput mixed.g gain.g beta depth,
        scaleOutput mixed.b gain.b beta depth⟩ := by
  rw [scaledPixel, h]
  rfl

/-- Settles O48: the low-level test decides the values that leave step 3, and each channel of steps 3 and 6 follows its
equation. -/
theorem pixelPipelineIsExact : Obligations.PixelPipelineIsExact := by
  unfold Obligations.PixelPipelineIsExact
  intro c gain threshold depth beta input hmax hmin x sum mixed scaled out
  have hscale (m k : Nat) : scaleOutput m k beta depth = scaled m k := scaleOutput_eq (by omega) m k beta
  have hmatrix (row : Rgb Int) : matrixChannel row x = mixed (sum row) := matrixChannel_eq row x
  refine ⟨?_, ?_, rfl⟩
  · intro hlow
    have hout := scaledPixel_of_mixed (mixChannels_of_low hlow c.matrix) gain depth beta
    rw [hscale, hscale, hscale] at hout
    exact hout
  · intro hhigh
    have hout := scaledPixel_of_mixed (mixChannels_of_not_low hhigh c.matrix) gain depth beta
    rw [hscale, hscale, hscale, hmatrix, hmatrix, hmatrix] at hout
    exact hout

end Sys2Proof.Machine
end

section
/-! PROOFS. The defect substitution and the black overrides, steps 8 and 9 (R52, R117, R118, R120): the entry of a pixel,
the value it is sent with, a line under an override, and O50. -/

namespace Sys2Proof.Machine

/-! ## The entry of a pixel -/

/-- The entry `substitute` looks up for column `x` of line `y`. -/
def defectAt (defects : List Defect) (y x : Nat) : Option Defect :=
  (defects.filter fun d => d.line == y).find? fun d => d.column == x

theorem defectAt_eq_none {defects : List Defect} {y x : Nat}
    (h : ∀ d ∈ defects, d.line = y → d.column ≠ x) : defectAt defects y x = none := by
  rw [defectAt, List.find?_eq_none]
  intro d hd
  obtain ⟨hmem, hline⟩ := List.mem_filter.1 hd
  exact mt beq_iff_eq.1 (h d hmem (beq_iff_eq.1 hline))

/-- What the look-up finds is an entry of the list at that place. -/
theorem of_defectAt_eq_some {defects : List Defect} {y x : Nat} {d : Defect} (h : defectAt defects y x = some d) :
    d ∈ defects ∧ d.line = y ∧ d.column = x := by
  rw [defectAt] at h
  obtain ⟨hmem, hline⟩ := List.mem_filter.1 (List.mem_of_find?_eq_some h)
  have hcolumn := List.find?_some h
  exact ⟨hmem, beq_iff_eq.1 hline, beq_iff_eq.1 hcolumn⟩

/-- The only entry of a place is the one found there. -/
theorem defectAt_eq_some {defects : List Defect} {d : Defect} (hmem : d ∈ defects)
    (honly : ∀ e ∈ defects, e.line = d.line → e.column = d.column → e = d) :
    defectAt defects d.line d.column = some d := by
  cases hfind : defectAt defects d.line d.column with
  | none =>
    have hhere : d ∈ defects.filter fun e => e.line == d.line := List.mem_filter.2 ⟨hmem, beq_self_eq_true d.line⟩
    exact absurd (beq_self_eq_true d.column) (List.find?_eq_none.1 hfind d hhere)
  | some e =>
    obtain ⟨hemem, heline, hecolumn⟩ := of_defectAt_eq_some hfind
    rw [honly e hemem heline hecolumn]

/-! ## The value a pixel is sent with -/

/-- Mapping over a list with its indices acts on each place by itself. -/
theorem getElem?_map_zip_range {α β : Type} (f : Nat × α → β) {values : List α} {x : Nat} (hx : x < values.length) :
    (((List.range values.length).zip values).map f)[x]? = some (f (x, values[x])) := by
  have hlength : x < (((List.range values.length).zip values).map f).length := by
    simpa only [List.length_map, List.length_zip, List.length_range, Nat.min_self] using hx
  rw [List.getElem?_eq_getElem hlength, List.getElem_map, List.getElem_zip, List.getElem_range]

section
variable {defects : List Defect} {y x : Nat} {values : List (Rgb Nat)}

theorem substitute_of_none (hx : x < values.length) (h : defectAt defects y x = none) :
    (substitute defects y values)[x]? = some values[x] := by
  rw [defectAt] at h
  simp only [substitute, getElem?_map_zip_range _ hx, h]

theorem substitute_of_dark (hx : x < values.length) {d : Defect} (h : defectAt defects y x = some d)
    (hdark : d.action = .dark) : (substitute defects y values)[x]? = some (Rgb.all 0) := by
  rw [defectAt] at h
  simp only [substitute, getElem?_map_zip_range _ hx, h, hdark]

theorem substitute_of_neighbour (hx : x < values.length) {d : Defect} (h : defectAt defects y x = some d)
    (hneighbour : d.action = .neighbour) :
    (substitute defects y values)[x]? = some (values.getD (if x = 0 then 1 else x - 1) values[x]) := by
  rw [defectAt] at h
  simp only [substitute, getElem?_map_zip_range _ hx, h, hneighbour]

end

/-- R118: on a line of two pixels or more every column has the neighbour it may be replaced by. -/
theorem some_getD_neighbour {x : Nat} {values : List (Rgb Nat)} (hx : x < values.length) (hwide : 2 ≤ values.length)
    (v : Rgb Nat) :
    some (values.getD (if x = 0 then 1 else x - 1) v) = if x = 0 then values[1]? else values[x - 1]? := by
  split
  · rw [List.getD_eq_getElem _ _ (by omega : 1 < values.length), List.getElem?_eq_getElem]
  · rw [List.getD_eq_getElem _ _ (by omega : x - 1 < values.length), List.getElem?_eq_getElem]

/-! ## Black overrides -/

theorem overridden_iff (b : Binding) (k : BoundSlot) :
    overridden b k = true ↔ k.dark = true ∨ b.display = .blanked ∨ b.blank = true := by
  rw [overridden, Bool.or_eq_true, Bool.or_eq_true, decide_eq_true_iff, or_assoc]

theorem length_scaledLine (c : SentCopy) (threshold w depth y : Nat) (input : Nat → Rgb Nat) :
    (scaledLine c threshold w depth y input).length = w := by
  rw [scaledLine, List.length_map, List.length_range]

/-- R120: under an override a line is black whatever steps 1 to 8 formed, and it counts no clamp. -/
theorem finishLine_black (c : SentCopy) (depth y : Nat) (scaled : List (Rgb Nat)) :
    finishLine true c depth y scaled = (List.replicate scaled.length (Rgb.all 0), 0) := by
  rw [finishLine, if_pos rfl, List.map_const']

theorem lineOf_of_overridden {b : Binding} {k : SlotId} (h : overridden b (b.slots.get k) = true) (s : State)
    (c : SentCopy) (size : BoundSize) (y : Nat) :
    lineOf s b k c size y = (List.replicate size.width (Rgb.all 0), 0) := by
  rw [lineOf, h, finishLine_black, length_scaledLine]

/-- Settles O50: the look-up decides which value of the line a pixel is sent with, and an override blackens the line. -/
theorem defectsAndBlackOverridesDecideSentValues : Obligations.DefectsAndBlackOverridesDecideSentValues := by
  unfold Obligations.DefectsAndBlackOverridesDecideSentValues
  refine ⟨?_, ?_⟩
  · intro defects y x values hx hwide
    refine ⟨?_, ?_⟩
    · intro hnone
      exact substitute_of_none hx (defectAt_eq_none hnone)
    · rintro d hmem rfl rfl honly
      have hfound := defectAt_eq_some hmem honly
      refine ⟨?_, ?_⟩
      · intro hdark
        exact substitute_of_dark hx hfound hdark
      · intro hneighbour
        rw [substitute_of_neighbour hx hfound hneighbour, some_getD_neighbour hx hwide]
  · intro s b k c size y hoverride
    exact lineOf_of_overridden ((overridden_iff b (b.slots.get k)).2 hoverride) s c size y

end Sys2Proof.Machine
end

section
/-! PROOFS. Writing a band (R126, R127): the clamp of a gain, the entry a write stores, the body of WRITE-BAND under each of
its checks, and O35. -/

namespace Sys2Proof.Machine

/-! ## The clamp -/

/-- The clamp of a gain as R127 words it: below 2048, above 6144, or kept. -/
theorem clampGain_eq_ite (g : W16) :
    clampGain g = if g.toNat < 2048 then 2048 else if 6144 < g.toNat then 6144 else g := by
  rw [clampGain, clampNat, Config.bandMin, Config.bandMax]
  split_ifs with hlow hhigh
  · have hbound : max 2048 (min 6144 g.toNat) = 2048 := by omega
    rw [hbound]
    rfl
  · have hbound : max 2048 (min 6144 g.toNat) = 6144 := by omega
    rw [hbound]
    rfl
  · have hkept : max 2048 (min 6144 g.toNat) = g.toNat := by omega
    rw [hkept, BitVec.ofNat_toNat, BitVec.setWidth_eq]

theorem gainsClamped_eq_false_iff (e : RawBand) :
    gainsClamped e = false ↔ clampGain e.startGain = e.startGain ∧ clampGain e.endGain = e.endGain := by
  simp only [gainsClamped, Bool.or_eq_false_iff, decide_eq_false_iff_not, not_not]

/-- The outcome of a stored entry is OK exactly when both gains are stored as given. -/
theorem stored_gainsClamped_outcome (e : RawBand) (data : List Byte) :
    (Answer.stored (gainsClamped e) data).outcome =
      if clampGain e.startGain = e.startGain ∧ clampGain e.endGain = e.endGain then .ok else .okClamped := by
  simp only [← gainsClamped_eq_false_iff, Answer.stored]
  cases gainsClamped e <;> rfl

/-! ## The entry a write stores -/

theorem flagOf_eq_some {b : Byte} (h : b.toNat ≤ 1) : flagOf b = some (b == 1) := by
  have hflag : b = 0 ∨ b = 1 := by bv_omega
  obtain rfl | rfl := hflag <;> rfl

theorem flagOf_eq_none {b : Byte} (h : 1 < b.toNat) : flagOf b = none := by
  have hzero : b ≠ 0 := by bv_omega
  have hone : b ≠ 1 := by bv_omega
  rw [flagOf, if_neg hzero, if_neg hone]

/-- The entry a write that passes R126 stores: each gain clamped, every other field as given (R127). -/
def bandAsStored (e : RawBand) : Band :=
  ⟨e.enabled == 1, e.y0, e.y1, e.startEdge, e.endEdge, e.startSlope, e.endSlope, clampGain e.startGain,
    clampGain e.endGain⟩

theorem decodeBand_eq_some {e : RawBand} (henabled : e.enabled.toNat ≤ 1) (hlines : e.y0.toNat ≤ e.y1.toNat) :
    decodeBand e = some (bandAsStored e) := by
  have horder : e.y0 ≤ e.y1 := hlines
  simp only [decodeBand, flagOf_eq_some henabled, Option.bind_eq_bind, Option.bind_some, if_pos horder, bandAsStored]

theorem decodeBand_eq_none {e : RawBand} (h : 1 < e.enabled.toNat ∨ e.y1.toNat < e.y0.toNat) : decodeBand e = none := by
  by_cases henabled : e.enabled.toNat ≤ 1
  · have horder : ¬ e.y0 ≤ e.y1 := by bv_omega
    simp only [decodeBand, flagOf_eq_some henabled, Option.bind_eq_bind, Option.bind_some, if_neg horder]
  · have hflag : flagOf e.enabled = none := flagOf_eq_none (by omega)
    simp only [decodeBand, hflag, Option.bind_eq_bind, Option.bind_none]

/-! ## The body of WRITE-BAND -/

theorem writeBandBody_of_gt {slot band : Byte} (h : 15 < slot.toNat ∨ 3 < band.toNat) (e : RawBand) (s : State) :
    writeBandBody slot band e s = (s, .refuse .badIndex) := by
  simp only [writeBandBody, bandIndex_eq_none h]

theorem writeBandBody_of_malformed {slot band : Byte} (hslot : slot.toNat < 16) (hband : band.toNat < 4) {e : RawBand}
    (h : 1 < e.enabled.toNat ∨ e.y1.toNat < e.y0.toNat) (s : State) :
    writeBandBody slot band e s = (s, .refuse .badValue) := by
  simp only [writeBandBody, bandIndex_eq_some hslot hband, decodeBand_eq_none h]

theorem writeBandBody_of_passes {slot band : Byte} (hslot : slot.toNat < 16) (hband : band.toNat < 4) {e : RawBand}
    (henabled : e.enabled.toNat ≤ 1) (hlines : e.y0.toNat ≤ e.y1.toNat) (s : State) :
    writeBandBody slot band e s =
      (s.withBands (s.bands.set ⟨slot.toNat, hslot⟩
          ((s.bands.get ⟨slot.toNat, hslot⟩).set ⟨band.toNat, hband⟩ (bandAsStored e))),
        .stored (gainsClamped e) (slot :: band :: (bandAsStored e).bytes)) := by
  simp only [writeBandBody, bandIndex_eq_some hslot hband, decodeBand_eq_some henabled hlines]

/-- The bands a request finds are those that stood when its cell came. -/
theorem State.heard_bands (s : State) (p : Up) : (s.heard p).bands = s.bands := by
  simp only [State.heard_fields]

/-- Settles O35: WRITE-BAND is an edit (`exec_edit`), so each clause is the body under its checks, and the outcome of a
stored entry is read off its two clamps. -/
theorem writeBandChecksAndClamps : Obligations.WriteBandChecksAndClamps := by
  unfold Obligations.WriteBandChecksAndClamps
  intro p tag slot band e s hserves hedit
  simp only [← clampGain_eq_ite]
  rw [← State.heard_bands s p]
  refine ⟨?_, ?_⟩
  · intro hbeyond
    exact exec_edit rfl hserves hedit (writeBandBody_of_gt hbeyond e (s.heard p))
  · intro hslot hband
    refine ⟨?_, ?_⟩
    · intro hmalformed
      exact exec_edit rfl hserves hedit (writeBandBody_of_malformed hslot hband hmalformed (s.heard p))
    · intro henabled hlines
      rw [← stored_gainsClamped_outcome e (slot :: band :: (bandAsStored e).bytes)]
      exact exec_edit rfl hserves hedit (writeBandBody_of_passes hslot hband henabled hlines (s.heard p))

end Sys2Proof.Machine
end

section
/-! PROOFS. Status reads (R166, R184, R185, R197): the slot record and the port record laid out field by field, the answer of
each read from the state in which its cell has been counted, and O31. -/

namespace Sys2Proof.Machine

/-! ## The layouts -/

/-- The bytes of a slot record with its six factors written out: target R, G, B, then applied R, G, B (Table 1-7). -/
theorem slotRecord_eq (s : State) (k : SlotId) :
    slotRecord s k =
      [byte1 k.val, (s.tile k).presence.code] ++ factsBytes (s.tile k).facts ++ readingBytes (s.drift.get k).reading ++
      [byte1 (s.drift.get k).miss] ++ beBytes 4 (s.drift.get k).target.r ++ beBytes 4 (s.drift.get k).target.g ++
      beBytes 4 (s.drift.get k).target.b ++ beBytes 4 (s.drift.get k).applied.r ++ beBytes 4 (s.drift.get k).applied.g ++
      beBytes 4 (s.drift.get k).applied.b ++ beBytes 2 (s.counts.get k).last ++ beBytes 2 (s.counts.get k).peak := by
  simp only [slotRecord, Rgb.toList, List.flatMap_append, List.flatMap_cons, List.flatMap_nil, List.append_nil,
    List.append_assoc]

/-- The code of the active source (Table 1-8). -/
def activeByte : Option Up → Byte
  | none => 0
  | some .ua => 1
  | some .ub => 2

/-- The bytes of a port record with its eleven tallies written out: UA's four, UB's four, D's three (Table 1-8). -/
theorem portRecord_eq (s : State) :
    portRecord s =
      [s.ua.state.code, s.ub.state.code, flagByte s.d.aligned, activeByte s.selector.active] ++
      beBytes 4 (s.clock % 2 ^ 32) ++
      beBytes 2 s.ua.crcFailed ++ beBytes 2 s.ua.foreign ++ beBytes 2 s.ua.unanswered ++ beBytes 2 s.ua.complete ++
      beBytes 2 s.ub.crcFailed ++ beBytes 2 s.ub.foreign ++ beBytes 2 s.ub.unanswered ++ beBytes 2 s.ub.complete ++
      beBytes 2 s.d.crcFailed ++ beBytes 2 s.d.stray ++ beBytes 2 s.d.dropped := by
  simp only [portRecord, tallyBytes, State.partTime, BitVec.toNat_ofNat, List.append_assoc]
  rfl

/-! ## The answer of each read, from the state in which its cell has been counted -/

theorem readLevelAnswer_heard (s : State) (p : Up) : readLevelAnswer (s.heard p) = readLevelAnswer s := by
  simp only [readLevelAnswer, State.heard_fields]

theorem readCausesAnswer_heard (s : State) (p : Up) : readCausesAnswer (s.heard p) = readCausesAnswer s := by
  simp only [readCausesAnswer, causeTable, State.heard_fields]

/-- The good run and the failed run, which counting the cell changes, are not in the port record. -/
theorem portRecord_heard (s : State) (p : Up) : portRecord (s.heard p) = portRecord s := by
  cases p <;> rfl

theorem slotRecord_heard (s : State) (p : Up) (k : SlotId) : slotRecord (s.heard p) k = slotRecord s k := by
  simp only [slotRecord, State.tile, State.heard_fields]

theorem readPortsAnswer_heard (s : State) (p : Up) : readPortsAnswer (s.heard p) = .ok (portRecord s) := by
  rw [readPortsAnswer, portRecord_heard]

theorem readSlotAnswer_heard_of_lt {slot : Byte} (h : slot.toNat < 16) (s : State) (p : Up) :
    readSlotAnswer slot (s.heard p) = .ok (slotRecord s ⟨slot.toNat, h⟩) := by
  simp only [readSlotAnswer, slotOf_eq_some h, slotRecord_heard]

theorem readSlotAnswer_of_gt {slot : Byte} (h : 15 < slot.toNat) (s : State) :
    readSlotAnswer slot s = .refuse .badIndex := by
  simp only [readSlotAnswer, slotOf_eq_none h]

/-- The slot number in a slot record is the byte that named the slot. -/
theorem byte1_toNat (b : Byte) : byte1 b.toNat = b := by
  rw [byte1, BitVec.ofNat_toNat, BitVec.setWidth_eq]

/-- Settles O31: each command is a read (`exec_read`) whose answer, unchanged by the counting of its cell, is in the layout
of its table. A slot record takes its form from whether the tile's facts and a reading are present. -/
theorem statusReadsAnswerPresentValues : Obligations.StatusReadsAnswerPresentValues := by
  unfold Obligations.StatusReadsAnswerPresentValues
  intro p tag slot s hserves
  refine ⟨?_, ?_, ?_, ?_, ?_⟩
  · exact exec_read rfl hserves (readLevelAnswer_heard s p)
  · intro hslot
    have hanswer := readSlotAnswer_heard_of_lt hslot s p
    rw [slotRecord_eq, byte1_toNat] at hanswer
    dsimp only
    rw [exec_read (i := .readSlot p tag slot) rfl hserves hanswer]
    cases (s.tile ⟨slot.toNat, hslot⟩).facts <;> cases (s.drift.get ⟨slot.toNat, hslot⟩).reading <;> rfl
  · intro hslot
    exact exec_read rfl hserves (readSlotAnswer_of_gt hslot (s.heard p))
  · exact exec_read rfl hserves (readCausesAnswer_heard s p)
  · have hanswer := readPortsAnswer_heard s p
    rw [portRecord_eq] at hanswer
    exact exec_read rfl hserves hanswer

end Sys2Proof.Machine
end

section
/-! PROOFS. Edits of the level and the causes (R163, R195, R196, R56): the body of SET-LEVEL at and beyond its limit, that of
CLEAR-CAUSES with and without PIXEL-LIMIT in one equation, that of WRITE-CAUSE-CONTROL under each of its checks, and O39. -/

namespace Sys2Proof.Machine

/-- The level, the causes and the limit counts a request finds are those that stood when its cell came. -/
theorem State.heard_level (s : State) (p : Up) : (s.heard p).level = s.level := by
  simp only [State.heard_fields]

theorem State.heard_causes (s : State) (p : Up) : (s.heard p).causes = s.causes := by
  simp only [State.heard_fields]

theorem State.heard_counts (s : State) (p : Up) : (s.heard p).counts = s.counts := by
  simp only [State.heard_fields]

/-! ## Values stored under an upper limit -/

/-- A value within its limit is stored as given, with the outcome OK. -/
theorem stored_min_of_le {limit v : Nat} (h : v ≤ limit) (data : List Byte) :
    Answer.stored (decide (min limit v ≠ v)) data = ⟨.ok, data⟩ := by
  have hkept : ¬ min limit v ≠ v := by omega
  rw [decide_eq_false hkept]
  rfl

/-- A value above its limit is stored clamped, with the outcome OK-CLAMPED (R173). -/
theorem stored_min_of_gt {limit v : Nat} (h : limit < v) (data : List Byte) :
    Answer.stored (decide (min limit v ≠ v)) data = ⟨.okClamped, data⟩ := by
  have hclamped : min limit v ≠ v := by omega
  rw [decide_eq_true hclamped]
  rfl

theorem stored_min_eq_ite (limit v : Nat) (data : List Byte) :
    Answer.stored (decide (min limit v ≠ v)) data = ⟨if v ≤ limit then .ok else .okClamped, data⟩ := by
  by_cases h : v ≤ limit
  · rw [stored_min_of_le h, if_pos h]
  · rw [stored_min_of_gt (Nat.lt_of_not_le h), if_neg h]

/-! ## SET-LEVEL -/

theorem setLevelBody_of_le {v : W32} (h : v.toNat ≤ Config.unity) (s : State) :
    setLevelBody v s = (s.withLevel { s.level with wall := v.toNat }, ⟨.ok, beBytes 4 v.toNat⟩) := by
  rw [setLevelBody, stored_min_of_le h, Nat.min_eq_right h]

theorem setLevelBody_of_gt {v : W32} (h : Config.unity < v.toNat) (s : State) :
    setLevelBody v s =
      (s.withLevel { s.level with wall := Config.unity }, ⟨.okClamped, beBytes 4 Config.unity⟩) := by
  rw [setLevelBody, stored_min_of_gt h, Nat.min_eq_left (Nat.le_of_lt h)]

/-! ## CLEAR-CAUSES -/

/-- Setting every peak to 0, or leaving all as they stand, is one rewriting of the limit counts (R56). -/
theorem clearPeaks_ite (named : Bool) (s : State) :
    (if named then clearPeaks s else s) =
      s.withCounts (Table.tabulate fun k => ⟨(s.counts.get k).last, if named then 0 else (s.counts.get k).peak⟩) := by
  cases named with
  | true =>
    have hcounts : (s.counts.map fun c => { c with peak := 0 }) =
        Table.tabulate fun k => (⟨(s.counts.get k).last, 0⟩ : LimitCounts) :=
      Table.ext_get fun k => by rw [Table.get_map, Table.get_tabulate]
    exact congrArg s.withCounts hcounts
  | false =>
    have hcounts : s.counts =
        Table.tabulate fun k => (⟨(s.counts.get k).last, (s.counts.get k).peak⟩ : LimitCounts) :=
      Table.ext_get fun k => by rw [Table.get_tabulate]
    exact congrArg s.withCounts hcounts

theorem clearCausesBody_eq (set : W16) (s : State) :
    clearCausesBody set s =
      ((clearNamed set s).withCounts (Table.tabulate fun k =>
          ⟨(s.counts.get k).last, if inSet set Cause.pixelLimit.number then 0 else (s.counts.get k).peak⟩),
        .ok (be16 set)) := by
  simp only [clearCausesBody, clearPeaks_ite, clearNamed, State.withCauses_fields]

/-! ## WRITE-CAUSE-CONTROL -/

theorem writeCauseControlBody_of_gt {cause : Byte} (h : 15 < cause.toNat) (enable level : Byte) (s : State) :
    writeCauseControlBody cause enable level s = (s, .refuse .badIndex) := by
  simp only [writeCauseControlBody, slotOf_eq_none h]

theorem writeCauseControlBody_of_enable_gt {cause enable : Byte} (hcause : cause.toNat < 16) (henable : 1 < enable.toNat)
    (level : Byte) (s : State) : writeCauseControlBody cause enable level s = (s, .refuse .badValue) := by
  simp only [writeCauseControlBody, slotOf_eq_some hcause, flagOf_eq_none henable]

theorem writeCauseControlBody_of_passes {cause enable : Byte} (hcause : cause.toNat < 16) (henable : enable.toNat ≤ 1)
    (level : Byte) (s : State) :
    writeCauseControlBody cause enable level s =
      (s.withCauses (s.causes.set ⟨cause.toNat, hcause⟩
          { s.causes.get ⟨cause.toNat, hcause⟩ with enable := enable == 1, level := min 3 level.toNat }),
        ⟨if level.toNat ≤ 3 then .ok else .okClamped, [cause, enable, byte1 (min 3 level.toNat)]⟩) := by
  simp only [writeCauseControlBody, slotOf_eq_some hcause, flagOf_eq_some henable, stored_min_eq_ite]

/-- Settles O39: the three commands are edits (`exec_edit`), so each clause is the body under its checks, run on the state
in which the cell has been counted. -/
theorem levelAndCauseEdits : Obligations.LevelAndCauseEdits := by
  unfold Obligations.LevelAndCauseEdits
  intro p tag v set cause enable level s hserves hedit
  rw [← State.heard_level s p, ← State.heard_causes s p, ← State.heard_counts s p]
  refine ⟨?_, ?_, ?_, ?_, ?_⟩
  · intro hv
    exact exec_edit rfl hserves hedit (setLevelBody_of_le hv (s.heard p))
  · intro hv
    exact exec_edit rfl hserves hedit (setLevelBody_of_gt hv (s.heard p))
  · exact exec_edit rfl hserves hedit (clearCausesBody_eq set (s.heard p))
  · intro hcause
    exact exec_edit rfl hserves hedit (writeCauseControlBody_of_gt hcause enable level (s.heard p))
  · intro hcause
    refine ⟨?_, ?_⟩
    · intro henable
      exact exec_edit rfl hserves hedit (writeCauseControlBody_of_enable_gt hcause henable level (s.heard p))
    · intro henable
      exact exec_edit rfl hserves hedit (writeCauseControlBody_of_passes hcause henable level (s.heard p))

end Sys2Proof.Machine
end

section
/-! PROOFS. The flag requests (R175 to R177, R179, R180): what setting and clearing the edit flag do in each case, the body
of each request on flag 0, on a coordination flag and beyond 15, and O40. -/

namespace Sys2Proof.Machine

/-- The flags and the holder a request finds are those that stood when its cell came. -/
theorem State.heard_flags (s : State) (p : Up) : (s.heard p).flags = s.flags := by
  simp only [State.heard_fields]

theorem State.heard_holder (s : State) (p : Up) : (s.heard p).holder = s.holder := by
  simp only [State.heard_fields]

/-! ## The reply (R180) -/

theorem flagNumber_ne_zero {flag : Byte} (h : flag.toNat < 16) (hpos : 1 ≤ flag.toNat) :
    (⟨flag.toNat, h⟩ : Fin 16) ≠ 0 :=
  Fin.ne_of_val_ne (Nat.ne_of_gt hpos)

/-- A reply on the edit flag names the holder. -/
theorem flagAnswer_zero (before : Bool) (holder : Option Up) :
    flagAnswer 0 before holder = .ok [0, flagByte before, holderByte holder] := rfl

/-- A reply on a coordination flag names no holder, whoever holds the edit flag. -/
theorem flagAnswer_of_pos {flag : Byte} (h : flag.toNat < 16) (hpos : 1 ≤ flag.toNat) (before : Bool)
    (holder : Option Up) : flagAnswer ⟨flag.toNat, h⟩ before holder = .ok [flag, flagByte before, 0] := by
  rw [flagAnswer, if_neg (flagNumber_ne_zero h hpos), byte1_toNat]

/-! ## The edit flag set and cleared (R175, R176) -/

theorem setEditFlag_of_clear {s : State} (hclear : s.flags.get 0 = false) (p : Up) :
    setEditFlag p s = (takeEditFlag p s, .ok [0, 0, holderByte (some p)]) := by
  rw [setEditFlag, hclear, if_neg Bool.false_ne_true]
  rfl

theorem setEditFlag_of_set {s : State} (hset : s.flags.get 0 = true) (p : Up) :
    setEditFlag p s = (s, .ok [0, 1, holderByte s.holder]) := by
  rw [setEditFlag, if_pos hset]
  rfl

theorem clearEditFlag_of_clear {s : State} (hclear : s.flags.get 0 = false) (p : Up) :
    clearEditFlag p s = (s, .ok [0, 0, 0]) := by
  rw [clearEditFlag, hclear, if_neg Bool.false_ne_true]
  rfl

theorem clearEditFlag_of_holder {s : State} (hset : s.flags.get 0 = true) {p : Up} (hholds : s.holder = some p) :
    clearEditFlag p s = (dropEditFlag s, .ok [0, 1, 0]) := by
  rw [clearEditFlag, if_pos hset, if_pos hholds]
  rfl

theorem clearEditFlag_of_other {s : State} (hset : s.flags.get 0 = true) {p : Up} (hother : s.holder ≠ some p) :
    clearEditFlag p s = (s, .refuse .notOwner) := by
  rw [clearEditFlag, if_pos hset, if_neg hother]

/-! ## The requests on flag 0 -/

theorem flagTestAnswer_zero (s : State) :
    flagTestAnswer 0 s = .ok [0, flagByte (s.flags.get 0), holderByte s.holder] :=
  flagAnswer_zero (s.flags.get 0) s.holder

theorem flagSetBody_zero (p : Up) (s : State) : flagSetBody p 0 s = setEditFlag p s := rfl

theorem flagClearBody_zero (p : Up) (s : State) : flagClearBody p 0 s = clearEditFlag p s := rfl

/-- A change of the edit flag is a FLAG-SET while it is clear (R177). -/
theorem flagChangeBody_zero_of_clear {s : State} (hclear : s.flags.get 0 = false) (p : Up) :
    flagChangeBody p 0 s = setEditFlag p s :=
  if_neg (ne_true_of_eq_false hclear)

/-- A change of the edit flag is a FLAG-CLEAR while it is set (R177). -/
theorem flagChangeBody_zero_of_set {s : State} (hset : s.flags.get 0 = true) (p : Up) :
    flagChangeBody p 0 s = clearEditFlag p s :=
  if_pos hset

/-! ## The requests on flags 1 to 15 (R179) -/

theorem changeFlag_of_pos {flag : Byte} (h : flag.toNat < 16) (hpos : 1 ≤ flag.toNat) (v : Bool) (s : State) :
    changeFlag ⟨flag.toNat, h⟩ v s =
      (s.withFlags (s.flags.set ⟨flag.toNat, h⟩ v), .ok [flag, flagByte (s.flags.get ⟨flag.toNat, h⟩), 0]) := by
  rw [changeFlag, flagAnswer_of_pos h hpos]

theorem flagTestAnswer_of_pos {flag : Byte} (h : flag.toNat < 16) (hpos : 1 ≤ flag.toNat) (s : State) :
    flagTestAnswer flag s = .ok [flag, flagByte (s.flags.get ⟨flag.toNat, h⟩), 0] := by
  simp only [flagTestAnswer, slotOf_eq_some h, flagAnswer_of_pos h hpos]

theorem flagSetBody_of_pos {flag : Byte} (h : flag.toNat < 16) (hpos : 1 ≤ flag.toNat) (p : Up) (s : State) :
    flagSetBody p flag s =
      (s.withFlags (s.flags.set ⟨flag.toNat, h⟩ true), .ok [flag, flagByte (s.flags.get ⟨flag.toNat, h⟩), 0]) := by
  simp only [flagSetBody, slotOf_eq_some h, if_neg (flagNumber_ne_zero h hpos), changeFlag_of_pos h hpos]

theorem flagClearBody_of_pos {flag : Byte} (h : flag.toNat < 16) (hpos : 1 ≤ flag.toNat) (p : Up) (s : State) :
    flagClearBody p flag s =
      (s.withFlags (s.flags.set ⟨flag.toNat, h⟩ false), .ok [flag, flagByte (s.flags.get ⟨flag.toNat, h⟩), 0]) := by
  simp only [flagClearBody, slotOf_eq_some h, if_neg (flagNumber_ne_zero h hpos), changeFlag_of_pos h hpos]

theorem flagChangeBody_of_pos {flag : Byte} (h : flag.toNat < 16) (hpos : 1 ≤ flag.toNat) (p : Up) (s : State) :
    flagChangeBody p flag s =
      (s.withFlags (s.flags.set ⟨flag.toNat, h⟩ (!s.flags.get ⟨flag.toNat, h⟩)),
        .ok [flag, flagByte (s.flags.get ⟨flag.toNat, h⟩), 0]) := by
  simp only [flagChangeBody, slotOf_eq_some h, if_neg (flagNumber_ne_zero h hpos), changeFlag_of_pos h hpos]

/-! ## The requests on a number above 15 -/

theorem flagTestAnswer_of_gt {flag : Byte} (h : 15 < flag.toNat) (s : State) :
    flagTestAnswer flag s = .refuse .badIndex := by
  simp only [flagTestAnswer, slotOf_eq_none h]

theorem flagSetBody_of_gt {flag : Byte} (h : 15 < flag.toNat) (p : Up) (s : State) :
    flagSetBody p flag s = (s, .refuse .badIndex) := by
  simp only [flagSetBody, slotOf_eq_none h]

theorem flagClearBody_of_gt {flag : Byte} (h : 15 < flag.toNat) (p : Up) (s : State) :
    flagClearBody p flag s = (s, .refuse .badIndex) := by
  simp only [flagClearBody, slotOf_eq_none h]

theorem flagChangeBody_of_gt {flag : Byte} (h : 15 < flag.toNat) (p : Up) (s : State) :
    flagChangeBody p flag s = (s, .refuse .badIndex) := by
  simp only [flagChangeBody, slotOf_eq_none h]

/-- Settles O40: FLAG-TEST is a read (`exec_read`) and the others are flag requests (`exec_flag`), so each clause is the
answer or the body in one case of the number, the flag and the holder, run on the state in which the cell has been counted. -/
theorem flagRequestsTestAndChange : Obligations.FlagRequestsTestAndChange := by
  unfold Obligations.FlagRequestsTestAndChange
  intro p tag flag s hserves
  rw [← State.heard_flags s p, ← State.heard_holder s p]
  intro holder me
  have hme : holderByte (some p) = me := by cases p <;> rfl
  refine ⟨?_, ?_, ?_, ?_, ?_⟩
  · intro hbeyond
    exact ⟨exec_read rfl hserves (flagTestAnswer_of_gt hbeyond (s.heard p)),
      exec_flag rfl hserves (flagSetBody_of_gt hbeyond p (s.heard p)),
      exec_flag rfl hserves (flagClearBody_of_gt hbeyond p (s.heard p)),
      exec_flag rfl hserves (flagChangeBody_of_gt hbeyond p (s.heard p))⟩
  · exact exec_read rfl hserves (flagTestAnswer_zero (s.heard p))
  · intro hclear
    have htaken := setEditFlag_of_clear hclear p
    rw [hme] at htaken
    exact ⟨exec_flag rfl hserves ((flagSetBody_zero p (s.heard p)).trans htaken),
      exec_flag rfl hserves ((flagChangeBody_zero_of_clear hclear p).trans htaken),
      exec_flag rfl hserves ((flagClearBody_zero p (s.heard p)).trans (clearEditFlag_of_clear hclear p))⟩
  · intro hset
    refine ⟨?_, ?_, ?_⟩
    · exact exec_flag rfl hserves ((flagSetBody_zero p (s.heard p)).trans (setEditFlag_of_set hset p))
    · intro hholds
      have hdropped := clearEditFlag_of_holder hset hholds
      exact ⟨exec_flag rfl hserves ((flagClearBody_zero p (s.heard p)).trans hdropped),
        exec_flag rfl hserves ((flagChangeBody_zero_of_set hset p).trans hdropped)⟩
    · intro hother
      have hrefused := clearEditFlag_of_other hset hother
      exact ⟨exec_flag rfl hserves ((flagClearBody_zero p (s.heard p)).trans hrefused),
        exec_flag rfl hserves ((flagChangeBody_zero_of_set hset p).trans hrefused)⟩
  · intro hnumber hpos
    exact ⟨exec_read rfl hserves (flagTestAnswer_of_pos hnumber hpos (s.heard p)),
      exec_flag rfl hserves (flagSetBody_of_pos hnumber hpos p (s.heard p)),
      exec_flag rfl hserves (flagClearBody_of_pos hnumber hpos p (s.heard p)),
      exec_flag rfl hserves (flagChangeBody_of_pos hnumber hpos p (s.heard p))⟩

end Sys2Proof.Machine
end

section
/-! PROOFS. The fault line (R198): a search of the sixteen causes as an existence, and O47. -/

namespace Sys2Proof.Machine

/-- `allSlots` leaves out none of the sixteen numbers (`mem_allSlots`), so a search of it finds whatever there is. -/
theorem any_allSlots_iff (test : SlotId → Bool) : allSlots.any test = true ↔ ∃ k, test k = true := by
  rw [List.any_eq_true]
  constructor
  · rintro ⟨k, -, hk⟩
    exact ⟨k, hk⟩
  · rintro ⟨k, hk⟩
    exact ⟨k, mem_allSlots k, hk⟩

/-- Settles O47: the line searches all sixteen causes (`any_allSlots_iff`) with a test that is the three conditions of R198
on the entry of a cause. -/
theorem faultLineFollowsCauses : Obligations.FaultLineFollowsCauses := by
  unfold Obligations.FaultLineFollowsCauses
  intro s
  rw [State.faultAsserted, any_allSlots_iff]
  refine exists_congr fun c => ?_
  rw [Bool.and_eq_true, Bool.and_eq_true, beq_iff_eq, and_assoc]

end Sys2Proof.Machine
end

section
/-! PROOFS. What raises do to the cause table (R190): a table reached by raises of listed causes, what such a table keeps,
and, for each operation, the causes it may raise. -/

namespace Sys2Proof.Machine

/-! ## Tables reached by raises -/

/-- The table `b` is reached from `a` by raises of causes of `cs`. -/
inductive Raised (cs : List Cause) (a : Table CauseEntry 16) : Table CauseEntry 16 → Prop
  | refl : Raised cs a a
  | raise {b : Table CauseEntry 16} (c : Cause) (k : Option SlotId) :
      Raised cs a b → c ∈ cs → Raised cs a (b.set c.number ((b.get c.number).raised k))

variable {cs : List Cause} {a b : Table CauseEntry 16}

@[simp] theorem Raised.self (cs : List Cause) (a : Table CauseEntry 16) : Raised cs a a := .refl

/-- What every raise of a listed cause keeps, raises keep. -/
theorem Raised.keeps {P : Table CauseEntry 16 → Prop}
    (hP : ∀ (t : Table CauseEntry 16) (c : Cause) (k : Option SlotId), c ∈ cs → P t →
      P (t.set c.number ((t.get c.number).raised k)))
    (h : Raised cs a b) (ha : P a) : P b := by
  induction h with
  | refl => exact ha
  | raise c k _ hc ih => exact hP _ c k hc ih

theorem Raised.trans {d : Table CauseEntry 16} (h : Raised cs a b) (g : Raised cs b d) : Raised cs a d :=
  g.keeps (P := Raised cs a) (fun _ c k hc ht => ht.raise c k hc) h

theorem Raised.mono {ds : List Cause} (h : Raised cs a b) (sub : cs ⊆ ds) : Raised ds a b :=
  h.keeps (P := Raised ds a) (fun _ c k hc ht => ht.raise c k (sub hc)) .refl

/-- An entry that no listed cause has is kept. -/
theorem Raised.get_of_notMem (h : Raised cs a b) {c : Fin 16} (hc : ∀ x ∈ cs, x.number ≠ c) : b.get c = a.get c :=
  h.keeps (P := fun t => t.get c = a.get c) (fun t x k hx ht => by rw [Table.get_set_of_ne _ _ (hc x hx), ht]) rfl

@[simp] theorem CauseEntry.raised_pending (e : CauseEntry) (k : Option SlotId) : (e.raised k).pending = true := by
  unfold CauseEntry.raised
  split
  · next h => exact h
  · rfl

/-- A pending cause stays pending. -/
theorem Raised.pending (h : Raised cs a b) {c : Fin 16} (hc : (a.get c).pending = true) : (b.get c).pending = true :=
  h.keeps (P := fun t => (t.get c).pending = true)
    (fun t x k _ ht => by rw [Table.get_set]; split; exacts [CauseEntry.raised_pending _ _, ht]) hc

/-- `raisesOnly` of a chain of raises. -/
theorem Raised.raisesOnly {s t : State} (h : Raised cs s.causes t.causes) : raisesOnly cs s t :=
  fun _ hc => h.get_of_notMem hc

/-! ## The causes that an operation raises -/

theorem raise_causes (c : Cause) (k : Option SlotId) (s : State) :
    (raise c k s).causes = s.causes.set c.number ((s.causes.get c.number).raised k) := by
  simp [raise]

/-- A cause just raised is pending. -/
@[simp] theorem raise_pending (c : Cause) (k : Option SlotId) (s : State) :
    ((raise c k s).causes.get c.number).pending = true := by
  simp [raise_causes]

variable {s : State}

@[simp] theorem raised_raise (c : Cause) (k : Option SlotId) (h : Raised cs a s.causes) (hc : c ∈ cs) :
    Raised cs a (raise c k s).causes := by
  rw [raise_causes]
  exact h.raise c k hc

/-- An operation carried out for every slot raises what it raises for each. -/
theorem raised_forSlots {f : SlotId → State → State}
    (hf : ∀ k s, Raised cs a s.causes → Raised cs a (f k s).causes) (h : Raised cs a s.causes) :
    Raised cs a (forSlots f s).causes :=
  forSlots_keeps (P := fun s => Raised cs a s.causes) hf h

/-- An operation that does not touch the causes keeps them. -/
theorem Touches.causes_eq {ps : List Part} {s t : State} (h : Touches ps s t) (hc : Part.causes ∉ ps := by simp) :
    t.causes = s.causes := h .causes hc

@[simp] theorem causes_enqueue (p : Up) (c : Cell) (s : State) : (s.enqueue p c).causes = s.causes := by
  simp [State.enqueue]

@[simp] theorem causes_withTile (k : SlotId) (x : Tile) (s : State) : (s.withTile k x).causes = s.causes := by
  simp [State.withTile]

@[simp] theorem causes_withDriftOf (k : SlotId) (x : Drift) (s : State) : (s.withDriftOf k x).causes = s.causes := by
  simp [State.withDriftOf]

@[simp] theorem causes_dropEditFlag (s : State) : (dropEditFlag s).causes = s.causes := by
  simp [dropEditFlag]

@[simp] theorem causes_abandonFrame (s : State) : (abandonFrame s).causes = s.causes :=
  (touches_abandonFrame (.refl _ s) (List.Subset.refl _)).causes_eq

@[simp] theorem causes_beginFrame (m : W16) (s : State) : (beginFrame m s).causes = s.causes := by
  simp [beginFrame]

@[simp] theorem causes_closeLate (s : State) : (closeLate s).causes = s.causes :=
  (touches_closeLate (.refl _ s) (List.Subset.refl _)).causes_eq

@[simp] theorem causes_dropWaiting (p : Up) (s : State) : (dropWaiting p s).causes = s.causes := by
  simp [dropWaiting]

@[simp] theorem causes_loseIdentity (k : SlotId) (s : State) : (loseIdentity k s).causes = s.causes :=
  (touches_loseIdentity k (.refl _ s) (List.Subset.refl _)).causes_eq

@[simp] theorem causes_dropQuery (s : State) : (dropQuery s).causes = s.causes := by
  simp [dropQuery]

@[simp] theorem causes_swap (s : State) : (swap s).causes = s.causes := by
  simp [swap]

@[simp] theorem causes_slewAll (s : State) : (slewAll s).causes = s.causes :=
  (touches_slewAll (.refl _ s) (List.Subset.refl _)).causes_eq

@[simp] theorem causes_enterScanning (s : State) : (enterScanning s).causes = s.causes :=
  (touches_enterScanning (.refl _ s) (List.Subset.refl _)).causes_eq

@[simp] theorem causes_abortScan (s : State) : (abortScan s).causes = s.causes := by
  simp [abortScan]

@[simp] theorem causes_beginNext (s : State) : (beginNext s).causes = s.causes :=
  (touches_beginNext (.refl _ s) (List.Subset.refl _)).causes_eq

@[simp] theorem causes_chooseQuery (senses : Bool) (s : State) : (chooseQuery senses s).causes = s.causes :=
  (touches_chooseQuery senses (.refl _ s) (List.Subset.refl _)).causes_eq

@[simp] theorem causes_chooseAndBegin (s : State) : (chooseAndBegin s).causes = s.causes := by
  simp [chooseAndBegin]

@[simp] theorem causes_becomeEmpty (k : SlotId) (s : State) : (becomeEmpty k s).causes = s.causes :=
  (touches_becomeEmpty k (.refl _ s) (List.Subset.refl _)).causes_eq

@[simp] theorem causes_becomeAbsent (k : SlotId) (s : State) : (becomeAbsent k s).causes = s.causes := by
  simp [becomeAbsent]

@[simp] theorem causes_resetImages (k : SlotId) (s : State) : (resetImages k s).causes = s.causes := by
  simp [resetImages]

@[simp] theorem causes_probeTimedOut (k : SlotId) (t : Nat) (s : State) : (probeTimedOut k t s).causes = s.causes := by
  simp [probeTimedOut]

@[simp] theorem causes_trackOpen (p : Up) (n : W16) (s : State) : (trackOpen p n s).causes = s.causes := by
  simp [trackOpen]

@[simp] theorem causes_countScanEnd (s : State) : (countScanEnd s).causes = s.causes :=
  (touches_countScanEnd (.refl _ s) (List.Subset.refl _)).causes_eq

@[simp] theorem causes_markScanEnded (s : State) : (markScanEnded s).causes = s.causes := by
  simp [markScanEnded]

@[simp] theorem raised_releaseEditFlag (p : Up) (h : Raised cs a s.causes) (hc : Cause.editReleased ∈ cs) :
    Raised cs a (releaseEditFlag p s).causes := by
  unfold releaseEditFlag; split <;> simp [h, hc]

@[simp] theorem raised_abandonLoadOf (p : Up) (h : Raised cs a s.causes) (hc : Cause.loadAbandoned ∈ cs) :
    Raised cs a (abandonLoadOf p s).causes := by
  unfold abandonLoadOf; (repeat' split) <;> simp [h, hc]

@[simp] theorem raised_switchSource (x : Option Up) (h : Raised cs a s.causes) (hc : Cause.sourceSwitch ∈ cs) :
    Raised cs a (switchSource x s).causes := by
  simp [switchSource, h, hc]

@[simp] theorem raised_settle (h : Raised cs a s.causes) (hc : Cause.sourceSwitch ∈ cs) :
    Raised cs a (settle s).causes := by
  unfold settle; (repeat' split) <;> simp [h, hc]

@[simp] theorem raised_carrySwitch (h : Raised cs a s.causes) (hc : Cause.sourceSwitch ∈ cs) :
    Raised cs a (carrySwitch s).causes := by
  unfold carrySwitch; (repeat' split) <;> simp [h, hc]

@[simp] theorem raised_receiveOpen (m : W16) (h : Raised cs a s.causes) (hq : Cause.frameSeq ∈ cs)
    (hd : Cause.frameDrop ∈ cs) (hc : Cause.sourceSwitch ∈ cs) : Raised cs a (receiveOpen m s).causes := by
  unfold receiveOpen; dsimp only; (repeat' split) <;> simp [h, hq, hd, hc]

@[simp] theorem raised_computeTargets (k : SlotId) (h : Raised cs a s.causes) (hc : Cause.driftRange ∈ cs) :
    Raised cs a (computeTargets k s).causes := by
  unfold computeTargets; dsimp only; (repeat' split) <;> simp [h, hc]

@[simp] theorem raised_initialiseDrift (k : SlotId) (h : Raised cs a s.causes) (hc : Cause.driftRange ∈ cs) :
    Raised cs a (initialiseDrift k s).causes := by
  unfold initialiseDrift; dsimp only; split <;> simp [h, hc]

@[simp] theorem raised_raiseEntered (p : Presence) (k : SlotId) (h : Raised cs a s.causes) (hm : Cause.misfit ∈ cs)
    (hu : Cause.unknownTile ∈ cs) : Raised cs a (raiseEntered p k s).causes := by
  unfold raiseEntered; split <;> simp [h, hm, hu]

@[simp] theorem raised_storeReading (k : SlotId) (t : Int) (n : Nat) (h : Raised cs a s.causes)
    (hc : Cause.driftRange ∈ cs) : Raised cs a (storeReading k t n s).causes := by
  unfold storeReading; dsimp only; split <;> simp [h, hc]

@[simp] theorem raised_recordMiss (k : SlotId) (h : Raised cs a s.causes) (hc : Cause.senseStale ∈ cs) :
    Raised cs a (recordMiss k s).causes := by
  simp [recordMiss, h, hc]

@[simp] theorem raised_loseTile (k : SlotId) (h : Raised cs a s.causes) (hc : Cause.tileLost ∈ cs) :
    Raised cs a (loseTile k s).causes := by
  simp [loseTile, h, hc]

@[simp] theorem raised_loseAllTiles (h : Raised cs a s.causes) (hc : Cause.tileLost ∈ cs) :
    Raised cs a (loseAllTiles s).causes :=
  raised_forSlots (fun k t ht => by split <;> simp [ht, hc]) h

@[simp] theorem raised_identify (k : SlotId) (f : TileFacts) (h : Raised cs a s.causes) (hn : Cause.tileNew ∈ cs)
    (hm : Cause.misfit ∈ cs) (hu : Cause.unknownTile ∈ cs) (hd : Cause.driftRange ∈ cs) :
    Raised cs a (identify k f s).causes := by
  simp (maxDischargeDepth := 99) [identify, h, hn, hm, hu, hd]

@[simp] theorem raised_movePresence (k : SlotId) (p : Presence) (h : Raised cs a s.causes) (hm : Cause.misfit ∈ cs)
    (hu : Cause.unknownTile ∈ cs) (hd : Cause.driftRange ∈ cs) : Raised cs a (movePresence k p s).causes := by
  simp [movePresence, h, hm, hu, hd]

@[simp] theorem raised_reevaluate (k : SlotId) (h : Raised cs a s.causes) (hm : Cause.misfit ∈ cs)
    (hu : Cause.unknownTile ∈ cs) (hd : Cause.driftRange ∈ cs) : Raised cs a (reevaluate k s).causes := by
  unfold reevaluate; dsimp only; (repeat' split) <;> simp [h, hm, hu, hd]

/-- A slot moved into MATCHED or UNKNOWN raises no MISFIT. -/
theorem raised_movePresence_isSent (k : SlotId) {p : Presence} (hp : p.isSent = true) (h : Raised cs a s.causes)
    (hu : Cause.unknownTile ∈ cs) (hd : Cause.driftRange ∈ cs) : Raised cs a (movePresence k p s).causes := by
  cases p <;> simp [Presence.isSent] at hp <;> simp [movePresence, raiseEntered, h, hu, hd]

@[simp] theorem raised_rejudge (id : W64) (k : SlotId) (h : Raised cs a s.causes) (hu : Cause.unknownTile ∈ cs)
    (hd : Cause.driftRange ∈ cs) : Raised cs a (rejudge id k s).causes := by
  unfold rejudge
  (repeat' split)
  · exact raised_computeTargets k h hd
  · exact raised_movePresence_isSent k rfl h hu hd
  · exact h
  · exact raised_movePresence_isSent k rfl h hu hd
  · exact h
  · exact h

@[simp] theorem raised_applyLibraryChange (id : W64) (h : Raised cs a s.causes) (hu : Cause.unknownTile ∈ cs)
    (hd : Cause.driftRange ∈ cs) : Raised cs a (applyLibraryChange id s).causes :=
  raised_forSlots (fun k _ ht => raised_rejudge id k ht hu hd) h

@[simp] theorem raised_formLevel (h : Raised cs a s.causes) (hc : Cause.levelOver ∈ cs) :
    Raised cs a (formLevel s).causes := by
  unfold formLevel; dsimp only; split <;> simp [h, hc]

@[simp] theorem raised_startScan (h : Raised cs a s.causes) (hc : Cause.levelOver ∈ cs) :
    Raised cs a (startScan s).causes := by
  unfold startScan; split <;> simp [h, hc]

@[simp] theorem raised_blankRestarts (n : Nat) (h : Raised cs a s.causes) (hc : Cause.levelOver ∈ cs) :
    Raised cs a (blankRestarts n s).causes := by
  induction n generalizing s with
  | zero => exact h
  | succ n ih => exact ih (by simp [blankRestart, h, hc])

@[simp] theorem raised_planPresence (k : SlotId) (p : Plan) (h : Raised cs a s.causes) (hm : Cause.misfit ∈ cs)
    (hu : Cause.unknownTile ∈ cs) (hd : Cause.driftRange ∈ cs) : Raised cs a (planPresence k p s).causes := by
  unfold planPresence; (repeat' split) <;> simp [h, hm, hu, hd]

@[simp] theorem raised_raiseMirrors (k : SlotId) (h : Raised cs a s.causes) (hm : Cause.misfit ∈ cs) :
    Raised cs a (raiseMirrors k s).causes :=
  raised_forSlots (fun j t ht => by (repeat' split) <;> simp [ht, hm]) h

@[simp] theorem raised_acceptPlan (k : SlotId) (p : Plan) (h : Raised cs a s.causes) (hm : Cause.misfit ∈ cs)
    (hu : Cause.unknownTile ∈ cs) (hd : Cause.driftRange ∈ cs) : Raised cs a (acceptPlan k p s).causes := by
  unfold acceptPlan; dsimp only; (repeat' split) <;> simp [h, hm, hu, hd]

@[simp] theorem raised_computeUnknownTargets (h : Raised cs a s.causes) (hd : Cause.driftRange ∈ cs) :
    Raised cs a (computeUnknownTargets s).causes :=
  raised_forSlots (fun k t ht => by split <;> simp [ht, hd]) h

@[simp] theorem raised_completeCount (sc : Scan) (k : SlotId) (h : Raised cs a s.causes) (hc : Cause.pixelLimit ∈ cs) :
    Raised cs a (completeCount sc k s).causes := by
  unfold completeCount
  extract_lets n s1
  have h1 : Raised cs a s1.causes := by simpa [s1] using h
  split
  · exact raised_raise _ _ h1 hc
  · exact h1

@[simp] theorem raised_completeCounts (h : Raised cs a s.causes) (hc : Cause.pixelLimit ∈ cs) :
    Raised cs a (completeCounts s).causes := by
  unfold completeCounts
  split
  · exact raised_forSlots (fun k _ ht => raised_completeCount _ k ht hc) h
  · exact h

@[simp] theorem raised_senseTimedOut (k : SlotId) (h : Raised cs a s.causes) (hs : Cause.senseStale ∈ cs)
    (hl : Cause.tileLost ∈ cs) : Raised cs a (senseTimedOut k s).causes := by
  unfold senseTimedOut; dsimp only; split <;> simp [h, hs, hl]

@[simp] theorem raised_acceptReading (k : SlotId) (short temperature : W16) (hours : BitVec 24)
    (h : Raised cs a s.causes) (hd : Cause.driftRange ∈ cs) (hl : Cause.tileLost ∈ cs) :
    Raised cs a (acceptReading k short temperature hours s).causes := by
  unfold acceptReading; (repeat' split) <;> simp [h, hd, hl]

@[simp] theorem raised_enterDown (p : Up) (h : Raised cs a s.causes) (he : Cause.editReleased ∈ cs)
    (hl : Cause.loadAbandoned ∈ cs) (hs : Cause.sourceSwitch ∈ cs) : Raised cs a (enterDown p s).causes := by
  unfold enterDown
  dsimp only
  split
  · simpa using h
  · simp (maxDischargeDepth := 99) [h, he, hl, hs]

@[simp] theorem raised_blankRestart (h : Raised cs a s.causes) (hc : Cause.levelOver ∈ cs) :
    Raised cs a (blankRestart s).causes :=
  raised_blankRestarts 1 h hc

@[simp] theorem raised_afterScan (h : Raised cs a s.causes) (hc : Cause.levelOver ∈ cs) :
    Raised cs a (afterScan s).causes := by
  unfold afterScan; dsimp only; split <;> simp [h, hc]

@[simp] theorem raised_installLoad (l : Load) (h : Raised cs a s.causes) (hu : Cause.unknownTile ∈ cs)
    (hd : Cause.driftRange ∈ cs) : Raised cs a (installLoad l s).causes := by
  simp [installLoad, h, hu, hd]

end Sys2Proof.Machine
end

section
/-! PROOFS. What a step can do: every step is a chain of actions, each of which keeps the laws of Safety on its own. An
action names the parts it touches, so that a law is looked at only where its parts are touched. -/

namespace Sys2Proof.Machine

/-! ## Words for the actions -/

/-- The runs and tallies of an upstream port lie in their ranges (R4, R10, 1.3). -/
def Upstream.inRange (u : Upstream) : Prop :=
  u.goodRun ≤ 8 ∧ u.failedRun ≤ 16 ∧ u.completeRun ≤ 3 ∧ u.crcFailed ≤ 65535 ∧ u.foreign ≤ 65535 ∧
  u.unanswered ≤ 65535 ∧ u.complete ≤ 65535

/-- What `portLaw` says of one port (R6, R7). -/
def Upstream.lawful (u : Upstream) : Prop :=
  (u.state = .up → u.lastOpen.isSome = true) ∧
  (u.state = .down → u.openFrame = none ∧ u.lastOpen = none ∧ u.completeRun = 0 ∧ u.queue.length ≤ 1)

/-- A port's record `x` may follow `u` without an entry to DOWN: the queue is kept, and so are the ranges and `lawful`. -/
structure Upstream.Follows (u x : Upstream) : Prop where
  queue : x.queue = u.queue
  down : x.state = .down → u.state = .down
  inRange : u.inRange → x.inRange
  lawful : u.lawful → x.lawful

/-- What `causeLaw` says of one entry (R189, R190). -/
def CauseEntry.lawful (e : CauseEntry) : Prop :=
  e.count ≤ 255 ∧ (e.count = 0 ↔ e.pending = false) ∧ (e.announced = true → e.pending = true) ∧
  (e.pending = false → e.firstSlot = none) ∧ e.level ≤ 3

/-- The state in which the new plan of a slot stands and its images follow it (R28, R29), its presence not yet judged. -/
def storePlan (k : SlotId) (p : Plan) (s : State) : State :=
  let s1 := s.withPlans (s.plans.set k p)
  if geometryChanged (s.plans.get k) p then resetImages k s1 else s1

/-- The restart values of R186 steps 1 and 2, with the switch they free (R12), before the first probes. -/
def restartValues (s : State) : State := carrySwitch (clearAllCauses (restartBlocks s))

/-- A waiting restart has nothing to hold any more (R186). -/
def endWait (s : State) : State := (s.withRestart none).withWaiting []

/-- The state after a power reset (R18). -/
def powerReset (s : State) : State :=
  (State.reset.withPending s.pending).withEngine { Engine.reset with blank := s.engine.blank }

/-! ## The actions -/

/-- One action on a state, with the parts it touches. `W` stands for the assumption that the waiting requests wait at ports
that are not DOWN, `R` for the room that a waiting RESTART has for its reply. -/
inductive Act (W R : Prop) : List Part → State → State → Prop
  | pending (s : State) (x : List Instr) : Act W R [.pending] s (s.withPending x)
  | advance (s : State) : Act W R [.clock, .noticePlaced] s (advance s)
  | noticePlaced (s : State) (x : Bool) : Act W R [.noticePlaced] s (s.withNoticePlaced x)
  | d (s : State) (x : ChainPort) : Act W R [.d] s (s.withD x)
  | bands (s : State) (x : Table (Table Band 4) 16) : Act W R [.bands] s (s.withBands x)
  | level (s : State) (x : Level) : Act W R [.level] s (s.withLevel x)
  | counts (s : State) (x : Table LimitCounts 16) : Act W R [.counts] s (s.withCounts x)
  | causes (s : State) (x : Table CauseEntry 16) (h : ∀ c, (s.causes.get c).lawful → (x.get c).lawful) :
      Act W R [.causes] s (s.withCauses x)
  | port (s : State) (p : Up) (x : Upstream) (h : (s.up p).Follows x) (hs : x.state = (s.up p).state) :
      Act W R [.up p] s (s.withUp p x)
  | settle (s : State) (x y : Upstream) (hx : s.ua.Follows x) (hy : s.ub.Follows y) :
      Act W R [.up .ua, .up .ub, .selector, .incoming, .receiver, .causes] s (settle ((s.withUa x).withUb y))
  | fall (s : State) (p : Up) (h : (s.up p).state ≠ .down) :
      Act W R [.up p, .selector, .incoming, .receiver, .load, .flags, .holder, .restart, .waiting, .causes] s
        (enterDown p s)
  | enqueue (s : State) (p : Up) (c : Cell) (hp : W → (s.up p).state ≠ .down) (hroom : R → (s.up p).queue.length < 32)
      (hw : ∀ w, s.restart = some w → w.port ≠ p) : Act W R [.up p] s (s.enqueue p c)
  | dequeue (s : State) (p : Up) : Act W R [.up p] s (s.withUp p { s.up p with queue := (s.up p).queue.tail })
  | receiveOpen (s : State) (m : W16) (h : s.selector.active.isSome = true) :
      Act W R [.selector, .incoming, .receiver, .causes] s (receiveOpen m s)
  | receiveRun (s : State) (line column : Nat) (pixels : List RawPixel) :
      Act W R [.incoming] s (receiveRun line column pixels s)
  | abandon (s : State) (c : Cause) :
      Act W R [.selector, .incoming, .receiver, .causes] s (carrySwitch (raise c none (abandonFrame s)))
  | ready (s : State) (h : s.engine.scan.isSome = true) :
      Act W R [.selector, .receiver, .causes] s (carrySwitch (s.withReceiver ⟨.idle, true⟩))
  | readyShown (s : State) :
      Act W R [.selector, .shown, .incoming, .receiver, .engine, .drift, .level, .causes] s
        (startScan (carrySwitch (s.withReceiver ⟨.idle, true⟩)))
  | startScan (s : State) :
      Act W R [.shown, .incoming, .receiver, .engine, .drift, .level, .causes] s (startScan s)
  | blankRestart (s : State) :
      Act W R [.shown, .incoming, .receiver, .engine, .drift, .level, .causes] s (blankRestart s)
  | afterScan (s : State) :
      Act W R [.shown, .incoming, .receiver, .engine, .drift, .level, .causes] s (afterScan s)
  | engine (s : State) (x : Engine) (hs : x.scan.isSome = s.engine.scan.isSome)
      (hr : x.repeatStart = s.engine.repeatStart) : Act W R [.engine] s (s.withEngine x)
  | loseTile (s : State) (k : SlotId) (h : (s.tile k).presence.identified = true) :
      Act W R [.tiles, .query, .causes] s (loseTile k s)
  | loseIdentity (s : State) (k : SlotId) (h : (s.tile k).presence.identified = true) :
      Act W R [.tiles, .query] s (loseIdentity k s)
  | probeAt (s : State) (k : SlotId) (t : ProbeDue) (h : (s.tile k).presence = .absent) :
      Act W R [.tiles] s (s.withTile k { s.tile k with due := some t })
  | query (s : State) (x : QueryUnit) (ht : x.tagCounter = s.query.tagCounter) (hl : x.senseList = s.query.senseList)
      (ho : ∀ q, x.outstanding = some q → ∃ r, s.query.outstanding = some r ∧ q.kind = r.kind ∧ q.slot = r.slot ∧
        q.tag = r.tag) : Act W R [.query] s (s.withQuery x)
  | choose (s : State) (senses : Bool) : Act W R [.query] s (chooseQuery senses s)
  | listSense (s : State) (k : SlotId) (h : (s.tile k).presence.identified = true) (hk : k ∉ s.query.senseList) :
      Act W R [.query] s (s.withQuery { s.query with senseList := s.query.senseList ++ [k] })
  | identified (s : State) (q : Query) (f : TileFacts) (hq : s.query.outstanding = some q) (hk : q.kind = .probe) :
      Act W R [.tiles, .query, .drift, .causes] s (identify q.slot f (dropQuery s))
  | probeTimedOut (s : State) (q : Query) (t : Nat) (hq : s.query.outstanding = some q) (hk : q.kind = .probe) :
      Act W R [.tiles, .query] s (probeTimedOut q.slot t (dropQuery s))
  | sensed (s : State) (q : Query) (short temperature : W16) (hours : BitVec 24) (hq : s.query.outstanding = some q)
      (hk : q.kind = .sense) :
      Act W R [.tiles, .query, .drift, .causes] s (acceptReading q.slot short temperature hours (dropQuery s))
  | senseTimedOut (s : State) (q : Query) (hq : s.query.outstanding = some q) (hk : q.kind = .sense) :
      Act W R [.tiles, .query, .drift, .causes] s (senseTimedOut q.slot (dropQuery s))
  | computeTargets (s : State) (k : SlotId) : Act W R [.drift, .causes] s (computeTargets k s)
  | writePlan (s : State) (k : SlotId) (e : RawPlan) (p : Plan) (he : decodePlan e = some p)
      (hp : planRefusal s.plans k p = none) (hne : s.plans.get k ≠ p) :
      Act W R [.plans, .shown, .incoming, .tiles, .query, .drift, .causes] s (planPresence k p (storePlan k p s))
  | load (s : State) (x : Option Load) (h : W → loadLaw s → loadLaw (s.withLoad x)) : Act W R [.load] s (s.withLoad x)
  | install (s : State) (l : Load) (hl : s.load = some l) (h : closeRefusal s.records l = none) :
      Act W R [.tiles, .records, .load, .drift, .causes] s (installLoad l s)
  | delete (s : State) (id : W64) (h : (findRecord s.records id).isSome = true) :
      Act W R [.tiles, .records, .drift, .causes] s
        (applyLibraryChange id (s.withRecords (s.records.eraseIdx (recordIndex s.records id))))
  | setting (s : State) (n : SettingId) (v : Int) (hn : n ≠ 0) (hv : (settingRow n).lo ≤ v ∧ v ≤ (settingRow n).hi) :
      Act W R [.settings] s (s.withSettings (s.settings.set n v))
  | preferred (s : State) (v : Int) (hv : (settingRow 0).lo ≤ v ∧ v ≤ (settingRow 0).hi) :
      Act W R [.settings, .selector, .incoming, .receiver, .causes] s (Machine.settle (s.withSettings (s.settings.set 0 v)))
  | flag (s : State) (k : Fin 16) (v : Bool) (hk : k ≠ 0) : Act W R [.flags] s (s.withFlags (s.flags.set k v))
  | takeFlag (s : State) (p : Up) (hp : W → (s.up p).state ≠ .down) : Act W R [.flags, .holder] s (takeEditFlag p s)
  | dropFlag (s : State) : Act W R [.flags, .holder] s (dropEditFlag s)
  | waitRestart (s : State) (p : Up) (tag : W16) (hs : s.restart = none) (hroom : (s.up p).queue.length < 32) :
      Act W R [.restart] s (s.withRestart (some ⟨p, tag, false, false, 0⟩))
  | restart (s : State) (f : RestartWait → RestartWait) (hf : ∀ w, (f w).port = w.port ∧ (f w).replyLost = w.replyLost) :
      Act W R [.restart] s (s.withRestart (s.restart.map f))
  | hold (s : State) (i : Instr) (p : Up) (hi : Instr.requestPort i = some p) (hp : W → (s.up p).state ≠ .down)
      (hroom : waitingAt s p < 4) (hs : s.restart.isSome = true) : Act W R [.waiting] s (s.withWaiting (s.waiting ++ [i]))
  | endWait (s : State) : Act W R [.restart, .waiting] s (endWait s)
  | restartValues (s : State) :
      Act W R [.selector, .shown, .incoming, .receiver, .engine, .counts, .tiles, .query, .load, .drift, .causes] s
        (restartValues s)
  | powerReset (s : State) :
      Act W R (.up .ua :: .up .ub :: .clock :: .waiting :: .noticePlaced :: requestParts) s (powerReset s)

/-- A chain of actions. -/
inductive Acts (W R : Prop) (s : State) : State → Prop
  | refl : Acts W R s s
  | tail {ps : List Part} {t u : State} : Acts W R s t → Act W R ps t u → Acts W R s u

/-- What every action keeps, a chain of them keeps. -/
theorem Acts.keeps {W R : Prop} {P : State → Prop} (hP : ∀ ps s t, Act W R ps s t → P s → P t) {s t : State}
    (h : Acts W R s t) (hs : P s) : P t := by
  induction h with
  | refl => exact hs
  | tail _ a ih => exact hP _ _ _ a ih

theorem touches_storePlan {ps : List Part} {s t : State} (k : SlotId) (p : Plan) (h : Touches ps s t)
    (sub : ([.plans, .shown, .incoming] : List Part) ⊆ ps) : Touches ps s (storePlan k p t) := by
  simp at sub; unfold storePlan; dsimp only; split <;> simp (maxDischargeDepth := 99) [h, sub]

/-- An action touches its parts alone. -/
theorem Act.touches {W R : Prop} {ps : List Part} {s t : State} (h : Act W R ps s t) : Touches ps s t := by
  cases h with
  | writePlan _ k e p => exact touches_planPresence k p (touches_storePlan k p (.refl _ s) (by simp)) (by simp)
  | powerReset =>
    intro f hf
    cases f <;> simp_all [requestParts, Part.same, Machine.powerReset]
    rename_i p
    cases p <;> simp_all
  | restartValues =>
    exact touches_carrySwitch (touches_clearAllCauses (touches_restartBlocks (.refl _ s) (by simp)) (by simp)) (by simp)
  | endWait => exact touches_withWaiting _ (touches_withRestart _ (.refl _ s) (by simp)) (by simp)
  | settle _ x y =>
    exact touches_settle (touches_withUp .ub y (touches_withUp .ua x (.refl _ s) (by simp)) (by simp)) (by simp)
  | _ => simp (maxDischargeDepth := 99)

end Sys2Proof.Machine
end

section
/-! PROOFS. Every operation of the machine is a chain of actions. -/

namespace Sys2Proof.Machine

/-! ## Records that follow -/

theorem tallyUp_le (n : Nat) : tallyUp n ≤ 65535 := Nat.min_le_left _ _

theorem Upstream.Follows.refl (u : Upstream) : u.Follows u := ⟨rfl, id, id, id⟩

/-- A record with another line condition, other runs of cells and other tallies. -/
theorem Upstream.follows_counted {u x : Upstream} (hstate : x.state = u.state) (hframe : x.openFrame = u.openFrame)
    (hopen : x.lastOpen = u.lastOpen) (hrun : x.completeRun = u.completeRun) (hqueue : x.queue = u.queue)
    (hr : u.inRange → x.inRange) : u.Follows x where
  queue := hqueue
  down := fun h => hstate ▸ h
  inRange := hr
  lawful := by unfold Upstream.lawful; rw [hstate, hframe, hopen, hrun, hqueue]; exact id

theorem Upstream.follows_lost (u : Upstream) (x : Bool) : u.Follows { u with lost := x } :=
  follows_counted rfl rfl rfl rfl rfl id

theorem Upstream.follows_failed (u : Upstream) :
    u.Follows { u with crcFailed := tallyUp u.crcFailed, failedRun := min Config.failedRunMax (u.failedRun + 1), goodRun := 0 } :=
  follows_counted rfl rfl rfl rfl rfl fun ⟨_, _, hc, _, h⟩ => ⟨Nat.zero_le 8, Nat.min_le_left _ _, hc, tallyUp_le _, h⟩

theorem Upstream.follows_quiet (u : Upstream) : u.Follows { u with goodRun := 0, failedRun := 0 } :=
  follows_counted rfl rfl rfl rfl rfl fun ⟨_, _, h⟩ => ⟨Nat.zero_le 8, Nat.zero_le 16, h⟩

theorem Upstream.follows_good (u : Upstream) :
    u.Follows { u with goodRun := min Config.goodRunMax (u.goodRun + 1), failedRun := 0 } :=
  follows_counted rfl rfl rfl rfl rfl fun ⟨_, _, h⟩ => ⟨Nat.min_le_left _ _, Nat.zero_le 16, h⟩

theorem Upstream.follows_foreign (u : Upstream) : u.Follows { u with foreign := tallyUp u.foreign } :=
  follows_counted rfl rfl rfl rfl rfl fun ⟨h1, h2, h3, h4, _, h⟩ => ⟨h1, h2, h3, h4, tallyUp_le _, h⟩

theorem Upstream.follows_unanswered (u : Upstream) : u.Follows { u with unanswered := tallyUp u.unanswered } :=
  follows_counted rfl rfl rfl rfl rfl fun ⟨h1, h2, h3, h4, h5, _, h⟩ => ⟨h1, h2, h3, h4, h5, tallyUp_le _, h⟩

theorem Upstream.follows_aligned (u : Upstream) :
    u.Follows { u with
      goodRun := min Config.goodRunMax (u.goodRun + 1), failedRun := 0, state := .aligned, completeRun := 0,
      openFrame := none } where
  queue := rfl
  down := fun h => nomatch h
  inRange := fun ⟨_, _, _, h⟩ => ⟨Nat.min_le_left _ _, Nat.zero_le 16, Nat.zero_le 3, h⟩
  lawful := fun _ => ⟨fun h => (nomatch h), fun h => nomatch h⟩

theorem Upstream.follows_leaveUp (u : Upstream) : u.Follows { u with state := .aligned, completeRun := 0 } where
  queue := rfl
  down := fun h => nomatch h
  inRange := fun ⟨h1, h2, _, h⟩ => ⟨h1, h2, Nat.zero_le 3, h⟩
  lawful := fun _ => ⟨fun h => (nomatch h), fun h => nomatch h⟩

theorem Upstream.follows_up (u : Upstream) (h : u.lastOpen.isSome = true) : u.Follows { u with state := .up } where
  queue := rfl
  down := fun h => nomatch h
  inRange := id
  lawful := fun _ => ⟨fun _ => h, fun h => nomatch h⟩

theorem Upstream.follows_uncompleted (u : Upstream) : u.Follows u.uncompleted where
  queue := rfl
  down := id
  inRange := fun ⟨h1, h2, _, h⟩ => ⟨h1, h2, Nat.zero_le 3, h⟩
  lawful := fun ⟨h1, h2⟩ => ⟨h1, fun hd => ⟨rfl, (h2 hd).2.1, rfl, (h2 hd).2.2.2⟩⟩

theorem Upstream.follows_runCleared (u : Upstream) : u.Follows { u with completeRun := 0 } where
  queue := rfl
  down := id
  inRange := fun ⟨h1, h2, _, h⟩ => ⟨h1, h2, Nat.zero_le 3, h⟩
  lawful := fun ⟨h1, h2⟩ => ⟨h1, fun hd => ⟨(h2 hd).1, (h2 hd).2.1, rfl, (h2 hd).2.2.2⟩⟩

/-- The tracker of a port that is not DOWN takes a FRAME-OPEN. -/
theorem Upstream.follows_opened {u : Upstream} (h : u.state ≠ .down) (f : OpenFrame) (now : Nat) :
    u.Follows { u with
      lastOpen := some now, completeRun := if u.openFrame.isSome then 0 else u.completeRun, openFrame := some f } where
  queue := rfl
  down := id
  inRange := fun ⟨h1, h2, h3, h'⟩ => ⟨h1, h2, by dsimp only; split <;> omega, h'⟩
  lawful := fun _ => ⟨fun _ => rfl, fun hd => absurd hd h⟩

/-- The tracker of a port that is not DOWN completes a frame. -/
theorem Upstream.follows_completed {u : Upstream} (h : u.state ≠ .down) :
    u.Follows { u with
      openFrame := none, completeRun := min Config.completeRunMax (u.completeRun + 1), complete := tallyUp u.complete } where
  queue := rfl
  down := id
  inRange := fun ⟨h1, h2, _, h4, h5, h6, _⟩ => ⟨h1, h2, Nat.min_le_left _ _, h4, h5, h6, tallyUp_le _⟩
  lawful := fun ⟨h1, _⟩ => ⟨h1, fun hd => absurd hd h⟩

/-! ## Chains -/

section
variable {W R : Prop} {s t : State}

/-- An operation carried out for every slot is a chain, if it is one for each. -/
theorem acts_forSlots {f : SlotId → State → State} (hf : ∀ k u, Acts W R s u → Acts W R s (f k u)) (h : Acts W R s t) :
    Acts W R s (forSlots f t) :=
  forSlots_keeps (P := Acts W R s) hf h

/-! ### Causes, notices and tallies -/

theorem CauseEntry.lawful_raised {e : CauseEntry} (k : Option SlotId) (h : e.lawful) : (e.raised k).lawful := by
  obtain ⟨h1, h2, h3, h4, h5⟩ := h
  unfold CauseEntry.raised
  split
  · next hp => exact ⟨Nat.min_le_left _ _, by simp [Config.countMax, hp], h3, h4, h5⟩
  · exact ⟨by simp, by simp, by simp, by simp, h5⟩

theorem CauseEntry.lawful_cleared {e : CauseEntry} (h : e.lawful) : e.cleared.lawful := by
  obtain ⟨-, -, -, -, h5⟩ := h
  exact ⟨by simp [CauseEntry.cleared], by simp [CauseEntry.cleared], by simp [CauseEntry.cleared],
    by simp [CauseEntry.cleared], h5⟩

/-- A table in which one entry is replaced is lawful if the new entry is. -/
theorem lawful_set {a : Table CauseEntry 16} {i : Fin 16} {e : CauseEntry} (he : (a.get i).lawful → e.lawful) (c : Fin 16)
    (h : (a.get c).lawful) : ((a.set i e).get c).lawful := by
  rw [Table.get_set]
  split
  · next hi => subst hi; exact he h
  · exact h

theorem acts_raise (c : Cause) (k : Option SlotId) (h : Acts W R s t) : Acts W R s (raise c k t) :=
  h.tail (.causes t _ (lawful_set (CauseEntry.lawful_raised k)))

theorem acts_countForeign (p : Up) (h : Acts W R s t) : Acts W R s (countForeign p t) :=
  h.tail (.port t p _ (Upstream.follows_foreign _) rfl)

theorem acts_countUnanswered (p : Up) (h : Acts W R s t) : Acts W R s (countUnanswered p t) :=
  h.tail (.port t p _ (Upstream.follows_unanswered _) rfl)

theorem acts_countStray (h : Acts W R s t) : Acts W R s (countStray t) := h.tail (.d t _)

/-- A notice is placed only where no restart waits, so its queue takes no reply's room. -/
theorem acts_placeNotice (c : Cell) (p : Up) (hr : t.restart = none) (h : Acts W R s t) :
    Acts W R s (placeNotice c p t) := by
  unfold placeNotice
  split
  · next ht =>
    rw [noticeTaken, Bool.and_eq_true, State.takesCells_iff, State.hasRoom_iff] at ht
    exact h.tail (.enqueue t p c (fun _ => ht.1) (fun _ => ht.2) (by simp [hr]))
  · exact h

theorem acts_announce (c : Fin 16) (hc : (t.causes.get c).pending = true) (h : Acts W R s t) :
    Acts W R s (announce c t) := by
  refine (h.tail (.causes t _ (lawful_set fun he => ?_))).tail (.noticePlaced _ true)
  obtain ⟨h1, h2, -, h4, h5⟩ := he
  exact ⟨h1, h2, fun _ => hc, h4, h5⟩

/-- What an offer chooses is due. -/
theorem causeDue_of_chosenCause {c : Fin 16} (h : chosenCause s = some c) : causeDue s c = true := by
  suffices H : ∀ (l : List (Fin 16)) (best : Option (Fin 16)), (∀ b, best = some b → causeDue s b = true) →
      ∀ c, l.foldl (fun best c => if causeDue s c then
        match best with
        | none => some c
        | some b => if (s.causes.get b).level < (s.causes.get c).level then some c else some b
      else best) best = some c → causeDue s c = true from
    H allSlots none (fun _ hb => nomatch hb) c h
  intro l
  induction l with
  | nil => exact fun best hb c hc => hb c hc
  | cons x l ih =>
    intro best hb
    refine ih _ fun b hx => ?_
    dsimp only at hx
    split at hx
    · next hd =>
      cases best with
      | none => exact Option.some.inj hx ▸ hd
      | some d =>
        dsimp only at hx
        split at hx
        · exact Option.some.inj hx ▸ hd
        · exact hb b hx
    · exact hb b hx

theorem pending_of_causeDue {c : Fin 16} (h : causeDue s c = true) : (s.causes.get c).pending = true := by
  simp only [causeDue, Bool.and_eq_true] at h
  exact h.1.1.1

theorem acts_noticeOffer (h : Acts W R s t) : Acts W R s (noticeOffer t) := by
  unfold noticeOffer
  split
  · exact h
  · next hoff =>
    simp only [Bool.or_eq_true, not_or, Bool.not_eq_true, Option.isSome_eq_false_iff, Option.isNone_iff_eq_none] at hoff
    split
    · next c hc =>
      split
      · have hr : (placeNotice (noticeCell t c) .ua t).restart = none := by
          rw [← hoff.2]; exact touches_placeNotice _ .ua (.refl [.up .ua] t) (by simp) .restart (by simp)
        have hp : (placeNotice (noticeCell t c) .ub (placeNotice (noticeCell t c) .ua t)).causes = t.causes :=
          touches_placeNotice _ .ub (touches_placeNotice _ .ua (.refl [.up .ua, .up .ub] t) (by simp)) (by simp)
            |>.causes_eq
        refine acts_announce c ?_ (acts_placeNotice _ _ hr (acts_placeNotice _ _ hoff.2 h))
        rw [hp]
        exact pending_of_causeDue (causeDue_of_chosenCause hc)
      · exact h
    · exact h

/-! ### The transmitter and the scan -/

theorem acts_transmit (c : Cell) (h : Acts W R s t) : Acts W R s (transmit c t) := h.tail (.d t _)

theorem acts_beginScanCell (h : Acts W R s t) : Acts W R s (beginScanCell t) := by
  unfold beginScanCell
  split
  · next sc hsc =>
    split
    · next c rest hcells =>
      exact acts_transmit c (h.tail (.engine t { t.engine with scan := some { sc with cells := rest } } (by simp [hsc]) rfl))
    · split
      · exact acts_transmit _ h
      · exact h
  · exact h

theorem acts_beginNext (h : Acts W R s t) : Acts W R s (beginNext t) := by
  unfold beginNext
  split
  · exact h
  · split
    · next q hq =>
      split
      · exact acts_transmit _ (h.tail (.query t { t.query with outstanding := some { q with phase := .sending } } rfl rfl
          (fun r hr => ⟨q, hq, by cases Option.some.inj hr; exact ⟨rfl, rfl, rfl⟩⟩)))
      · exact acts_beginScanCell h
    · exact acts_beginScanCell h

theorem acts_chooseAndBegin (h : Acts W R s t) : Acts W R s (chooseAndBegin t) :=
  acts_beginNext (h.tail (.choose t _))

theorem acts_formIfNeeded (h : Acts W R s t) : Acts W R s (formIfNeeded t) := by
  unfold formIfNeeded
  split
  · next sc hsc =>
    split
    · exact h.tail (.engine t _ (by simp [hsc]) rfl)
    · exact h
  · exact h

theorem acts_blankRestarts (n : Nat) (h : Acts W R s t) : Acts W R s (blankRestarts n t) := by
  induction n generalizing t with
  | zero => exact h
  | succ n ih => exact ih (h.tail (.blankRestart t))

theorem acts_txDone (h : Acts W R s t) : Acts W R s (txDone t) := acts_beginNext (h.tail (.d t _))

theorem acts_fixSent (h : Acts W R s t) : Acts W R s (fixSent t) := by
  unfold fixSent
  split
  · next q hq =>
    split
    · exact h.tail (.query t _ rfl rfl
        (fun r hr => ⟨q, hq, by cases Option.some.inj hr; exact ⟨rfl, rfl, rfl⟩⟩))
    · exact h
  · exact h

theorem acts_completeCounts (h : Acts W R s t) : Acts W R s (completeCounts t) := by
  unfold completeCounts
  split
  · refine acts_forSlots (fun k u hu => ?_) h
    unfold completeCount
    extract_lets n s1
    have h1 : Acts W R s s1 := hu.tail (.counts u _)
    split
    · exact acts_raise _ _ h1
    · exact h1
  · exact h

theorem acts_countScanEnd (h : Acts W R s t) : Acts W R s (countScanEnd t) := by
  unfold countScanEnd
  split <;> exact h.tail (.query t _ rfl rfl fun q hq => ⟨q, hq, rfl, rfl, rfl⟩)

theorem acts_takeDeferredBlanks (h : Acts W R s t) : Acts W R s (takeDeferredBlanks t) :=
  acts_blankRestarts _ (h.tail (.engine t _ rfl rfl))

theorem acts_markScanEnded (h : Acts W R s t) : Acts W R s (markScanEnded t) :=
  h.tail (.restart t _ fun _ => ⟨rfl, rfl⟩)

theorem acts_endScan (h : Acts W R s t) : Acts W R s (endScan t) :=
  acts_beginNext (acts_markScanEnded (acts_takeDeferredBlanks
    (((acts_countScanEnd (acts_completeCounts (h.tail (.d t _)))).tail (.choose _ true)).tail (.afterScan _))))

theorem acts_assertBlank (h : Acts W R s t) : Acts W R s (assertBlank t) := by
  have h1 : Acts W R s (t.withEngine { t.engine with blank := true }) := h.tail (.engine t _ rfl rfl)
  unfold assertBlank
  dsimp only
  split
  · split
    · next w hw =>
      have := h1.tail (.restart _ (fun w => { w with blanks := w.blanks + 1 }) fun _ => ⟨rfl, rfl⟩)
      rwa [hw] at this
    · exact h1.tail (.engine _ _ rfl rfl)
  · exact acts_beginNext (h1.tail (.blankRestart _))

theorem acts_holdLimit (h : Acts W R s t) : Acts W R s (holdLimit t) := by
  unfold holdLimit
  split
  · exact acts_raise _ _ (h.tail (.engine t _ rfl rfl))
  · exact h

theorem acts_repeatLimit (h : Acts W R s t) : Acts W R s (repeatLimit t) := by
  unfold repeatLimit
  split
  · split
    · exact acts_beginNext (h.tail (.startScan t))
    · exact h
  · exact h

/-! ### Frames and the active source -/

/-- The selector settles after one port's record has followed another. -/
theorem acts_settle_withUp (p : Up) {x : Upstream} (hx : (t.up p).Follows x) (h : Acts W R s t) :
    Acts W R s (settle (t.withUp p x)) := by
  cases p with
  | ua => exact h.tail (.settle t x t.ub hx (.refl _))
  | ub => exact h.tail (.settle t t.ua x (.refl _) hx)

theorem acts_receiveClose (m : W16) (h : Acts W R s t) : Acts W R s (receiveClose m t) := by
  unfold receiveClose
  split
  · exact acts_raise _ _ h
  · split
    · unfold frameReady
      have he : (carrySwitch (t.withReceiver ⟨.idle, true⟩)).engine = t.engine :=
        touches_carrySwitch (touches_withReceiver _ (.refl [.receiver, .selector, .causes] t) (by simp)) (by simp)
          .engine (by simp)
      by_cases hsc : t.engine.scan.isNone = true
      · rw [he, if_pos hsc]
        exact acts_beginNext (h.tail (.readyShown t))
      · rw [he, if_neg hsc]
        exact h.tail (.ready t (by simpa [Option.isSome_iff_ne_none] using hsc))
    · exact h.tail (.abandon t _)

theorem acts_trackOpen {p : Up} (n : W16) (hp : (t.up p).state ≠ .down) (h : Acts W R s t) :
    Acts W R s (trackOpen p n t) :=
  h.tail (.port t p _ (Upstream.follows_opened hp _ _) rfl)

theorem lastOpen_of_sourceFresh {p : Up} (h : sourceFresh s p = true) : (s.up p).lastOpen.isSome = true := by
  unfold sourceFresh at h
  split at h
  · next hl => simp [hl]
  · exact absurd h Bool.false_ne_true

theorem acts_tryUp (p : Up) (h : Acts W R s t) : Acts W R s (tryUp p t) := by
  unfold tryUp
  dsimp only
  split
  · split
    · next hf => exact acts_settle_withUp p (Upstream.follows_up _ (lastOpen_of_sourceFresh hf)) h
    · exact h.tail (.port t p _ (Upstream.follows_runCleared _) rfl)
  · exact h

theorem acts_trackClose {p : Up} (n : W16) (hp : (t.up p).state ≠ .down) (h : Acts W R s t) :
    Acts W R s (trackClose p n t) := by
  unfold trackClose
  dsimp only
  (repeat' split)
  · exact acts_tryUp p (h.tail (.port t p _ (Upstream.follows_completed hp) rfl))
  · exact h.tail (.port t p _ (Upstream.follows_uncompleted _) rfl)
  · exact h.tail (.port t p _ (Upstream.follows_uncompleted _) rfl)

theorem acts_trackerLimit (p : Up) (h : Acts W R s t) : Acts W R s (trackerLimit p t) := by
  unfold trackerLimit
  (repeat' split)
  · exact h.tail (.port t p _ (Upstream.follows_uncompleted _) rfl)
  · exact h
  · exact h

theorem acts_closeLate (h : Acts W R s t) : Acts W R s (closeLate t) := by
  unfold closeLate
  (repeat' split)
  · exact h.tail (.port t _ _ (Upstream.follows_uncompleted _) rfl)
  · exact h
  · exact h

theorem acts_receiverLimit (h : Acts W R s t) : Acts W R s (receiverLimit t) := by
  unfold receiverLimit
  (repeat' split)
  · exact (acts_closeLate h).tail (.abandon _ _)
  · exact h
  · exact h

theorem acts_sourceLoss (p : Up) (h : Acts W R s t) : Acts W R s (sourceLoss p t) := by
  unfold sourceLoss leaveUpIfStale
  split
  · exact acts_settle_withUp p (Upstream.follows_leaveUp _) h
  · exact h

/-- The two records that a write of setting 1 leaves. -/
theorem leaveUpIfStale_both (s : State) : ∃ x y, s.ua.Follows x ∧ s.ub.Follows y ∧
    leaveUpIfStale .ub (leaveUpIfStale .ua s) = (s.withUa x).withUb y := by
  unfold leaveUpIfStale
  by_cases ha : sourceStale s .ua = true
  · simp only [ha, if_true]
    split
    · exact ⟨_, _, Upstream.follows_leaveUp _, Upstream.follows_leaveUp _, rfl⟩
    · exact ⟨_, _, Upstream.follows_leaveUp _, .refl s.ub, rfl⟩
  · simp only [ha, if_false, Bool.false_eq_true]
    split
    · exact ⟨_, _, .refl s.ua, Upstream.follows_leaveUp _, rfl⟩
    · exact ⟨_, _, .refl s.ua, .refl s.ub, rfl⟩

theorem acts_sourceLossBoth (h : Acts W R s t) : Acts W R s (sourceLossBoth t) := by
  unfold sourceLossBoth
  split
  · obtain ⟨x, y, hx, hy, e⟩ := leaveUpIfStale_both t
    rw [e]
    exact h.tail (.settle t x y hx hy)
  · exact h

/-! ### Ports -/

theorem acts_enterDown (p : Up) (h : Acts W R s t) : Acts W R s (enterDown p t) := by
  by_cases hd : (t.up p).state = .down
  · rw [enterDown, if_pos hd]
    exact h.tail (.port t p _ (Upstream.follows_quiet _) rfl)
  · exact h.tail (.fall t p hd)

theorem acts_loseAllTiles (h : Acts W R s t) : Acts W R s (loseAllTiles t) :=
  acts_forSlots (fun k u hu => by split; exacts [hu.tail (.loseTile u k ‹_›), hu]) h

theorem acts_dropQuery (h : Acts W R s t) : Acts W R s (dropQuery t) :=
  h.tail (.query t _ rfl rfl fun _ hq => nomatch hq)

theorem acts_enterDownD (h : Acts W R s t) : Acts W R s (enterDownD t) := by
  unfold enterDownD
  dsimp only
  split
  · exact acts_loseAllTiles (acts_dropQuery (h.tail (.d t _)))
  · exact h.tail (.d t _)

theorem acts_crcFailed (p : Port) (h : Acts W R s t) : Acts W R s (crcFailed p t) := by
  cases p with
  | up q =>
    have h1 := acts_raise .linkErr none (h.tail (.port t q _ (Upstream.follows_failed _) rfl))
    simp only [crcFailed, crcFailedUp]
    split
    · exact acts_enterDown q h1
    · exact h1
  | d =>
    simp only [crcFailed, crcFailedD]
    split
    · exact acts_enterDownD (acts_raise _ _ (h.tail (.d t _)))
    · exact acts_raise _ _ (h.tail (.d t _))

theorem acts_setLost (p : Port) (x : Bool) (h : Acts W R s t) : Acts W R s (setLost p x t) := by
  cases p with
  | up q => exact h.tail (.port t q _ (Upstream.follows_lost _ _) rfl)
  | d => exact h.tail (.d t _)

theorem acts_portDown (p : Port) (h : Acts W R s t) : Acts W R s (portDown p t) := by
  cases p with
  | up q => exact acts_enterDown q h
  | d => exact acts_enterDownD h

theorem acts_countGoodUp (p : Up) (h : Acts W R s t) : Acts W R s (countGoodUp p t) := by
  unfold countGoodUp
  dsimp only
  split
  · exact acts_settle_withUp p (Upstream.follows_aligned _) h
  · exact h.tail (.port t p _ (Upstream.follows_good _) rfl)

theorem acts_countGoodD (h : Acts W R s t) : Acts W R s (countGoodD t) := by
  unfold countGoodD
  dsimp only
  split
  · refine acts_chooseAndBegin (acts_forSlots (fun k u hu => ?_) ((h.tail (.d t _)).tail (.d _ _)))
    split
    · exact hu.tail (.probeAt u k _ ‹_›)
    · exact hu
  · exact h.tail (.d t _)

/-- A cell that a port takes is acted upon in a state in which the port is not DOWN. -/
theorem acts_upCell {p : Up} {act : State → State}
    (ha : ∀ u, (u.up p).state ≠ .down → Acts W R s u → Acts W R s (act u)) (h : Acts W R s t) :
    Acts W R s (upCell p act t) := by
  unfold upCell
  split
  · exact h
  · split
    · next hc =>
      rw [State.takesCells_iff] at hc
      refine ha _ ?_ (acts_countGoodUp p h)
      rw [countGoodUp_heard hc]
      simpa using hc
    · exact acts_countGoodUp p h

theorem acts_dCell {act : State → State} (ha : ∀ u, Acts W R s u → Acts W R s (act u)) (h : Acts W R s t) :
    Acts W R s (dCell act t) := by
  unfold dCell
  (repeat' split)
  · exact h
  · exact ha _ (acts_countGoodD h)
  · exact acts_countGoodD h

theorem acts_forwardAlert (c : Cell) (p : Up) (h : Acts W R s t) : Acts W R s (forwardAlert c p t) := by
  unfold forwardAlert
  split
  · exact h
  · next hp =>
    simp only [Bool.not_eq_true', Bool.not_eq_false, State.takesCells_iff] at hp
    split
    · next hr =>
      rw [Bool.and_eq_true, Bool.not_eq_true', State.hasRoom_iff, awaitsRestart_eq_false_iff] at hr
      exact h.tail (.enqueue t p c (fun _ => hp) (fun _ => hr.1) hr.2)
    · exact h.tail (.d t _)

/-! ### The chain -/

theorem answeredQuery_eq_some {kind : QueryKind} {slot : Byte} {tag : W16} {k : SlotId}
    (h : answeredQuery t kind slot tag = some k) :
    ∃ q, t.query.outstanding = some q ∧ q.kind = kind ∧ q.slot = k := by
  unfold answeredQuery at h
  split at h
  · next q hq =>
    split at h
    · next hc => exact ⟨q, hq, hc.1, Option.some.inj h⟩
    · exact nomatch h
  · exact nomatch h

theorem acts_takeIdent (tag : W16) (slot : Byte) (f : TileFacts) (h : Acts W R s t) :
    Acts W R s (takeIdent tag slot f t) := by
  unfold takeIdent
  split
  · next k hk =>
    obtain ⟨q, hq, hkind, rfl⟩ := answeredQuery_eq_some hk
    exact acts_chooseAndBegin (h.tail (.identified t q f hq hkind))
  · exact acts_countStray h

theorem acts_takeSenseReply (tag : W16) (slot : Byte) (short temperature : W16) (hours : BitVec 24)
    (h : Acts W R s t) : Acts W R s (takeSenseReply tag slot short temperature hours t) := by
  unfold takeSenseReply
  split
  · next k hk =>
    obtain ⟨q, hq, hkind, rfl⟩ := answeredQuery_eq_some hk
    exact acts_chooseAndBegin (h.tail (.sensed t q short temperature hours hq hkind))
  · exact acts_countStray h

theorem acts_queryLimit (kind : QueryKind) (h : Acts W R s t) : Acts W R s (queryLimit kind t) := by
  unfold queryLimit
  split
  · next q hq =>
    split
    · split
      · next hc =>
        cases kind with
        | probe => exact acts_chooseAndBegin (h.tail (.probeTimedOut t q _ hq hc.1))
        | sense => exact acts_chooseAndBegin (h.tail (.senseTimedOut t q hq hc.1))
      · exact h
    · exact h
    · exact h
  · exact h

theorem acts_probeReached (k : SlotId) (h : Acts W R s t) : Acts W R s (probeReached k t) := by
  unfold probeReached
  split
  · exact acts_chooseAndBegin h
  · exact h

theorem acts_probesReached (h : Acts W R s t) : Acts W R s (probesReached t) := by
  unfold probesReached
  split
  · exact acts_chooseAndBegin h
  · exact h

theorem acts_probeNamed (k : SlotId) (h : Acts W R s t) : Acts W R s (probeNamed k t) := by
  unfold probeNamed
  split
  · exact h
  · next hp =>
    split
    · exact h
    · exact h.tail (.probeAt t k _ hp)
  all_goals next hp => exact h.tail (.loseIdentity t k (by simp [hp, Presence.identified]))

theorem acts_loadLimit (h : Acts W R s t) : Acts W R s (loadLimit t) := by
  unfold loadLimit
  (repeat' split)
  · exact acts_raise _ _ (h.tail (.load t none fun _ _ l hl => nomatch hl))
  · exact h
  · exact h

end

end Sys2Proof.Machine
end

section
/-! PROOFS. Requests and steps as chains of actions: what the execution of a request keeps of the ports, each body as a
chain, the requests that waited, and `step_acts`. -/

namespace Sys2Proof.Machine

/-! ## What the execution of a request keeps of a port -/

/-- What taking a cell reads of a port's record is the same: its signal, its runs, and whether it is DOWN. -/
structure Upstream.SameLink (u x : Upstream) : Prop where
  lost : x.lost = u.lost
  goodRun : x.goodRun = u.goodRun
  failedRun : x.failedRun = u.failedRun
  down : x.state = .down ↔ u.state = .down

theorem Upstream.SameLink.refl (u : Upstream) : u.SameLink u := ⟨rfl, rfl, rfl, Iff.rfl⟩

theorem Upstream.SameLink.trans {u x y : Upstream} (h : u.SameLink x) (g : x.SameLink y) : u.SameLink y :=
  ⟨g.lost.trans h.lost, g.goodRun.trans h.goodRun, g.failedRun.trans h.failedRun, g.down.trans h.down⟩

/-- The record of a port replaced by one of the same link. -/
theorem sameLink_withUp {s : State} {q : Up} {x : Upstream} (h : (s.up q).SameLink x) (p : Up) :
    (s.up p).SameLink ((s.withUp q x).up p) := by
  rw [State.withUp_up]
  split
  · next hq => subst hq; exact h
  · exact .refl _

/-- The queue of the port is kept, and so is its link. -/
def portKept (p : Up) (s t : State) : Prop :=
  (t.up p).queue = (s.up p).queue ∧ (s.up p).SameLink (t.up p)

theorem portKept.trans {p : Up} {s t u : State} (h : portKept p s t) (g : portKept p t u) : portKept p s u :=
  ⟨g.1.trans h.1, h.2.trans g.2⟩

theorem portKept_of_up {p : Up} {s t : State} (h : t.up p = s.up p) : portKept p s t := by
  rw [portKept, h]
  exact ⟨rfl, .refl _⟩

theorem portKept_of_touches {ps : List Part} {p : Up} {s t : State} (h : Touches ps s t) (hp : Part.up p ∉ ps) :
    portKept p s t := portKept_of_up (h (.up p) hp)

/-- A port's record replaced by one with its queue and its link. -/
theorem portKept_withUp {p q : Up} {s : State} {x : Upstream} (hq : x.queue = (s.up q).queue)
    (hd : (s.up q).SameLink x) : portKept p s (s.withUp q x) := by
  refine ⟨?_, sameLink_withUp hd p⟩
  rw [State.withUp_up]
  split
  · next h => subst h; exact hq
  · rfl

theorem portKept_settle (p : Up) (s : State) : portKept p s (settle s) :=
  portKept_of_touches (touches_settle (.refl [.selector, .incoming, .receiver, .causes] s) (by simp)) (by simp)

theorem portKept_leaveUpIfStale (p q : Up) (s : State) : portKept p s (leaveUpIfStale q s) := by
  unfold leaveUpIfStale
  split
  · next h =>
    simp only [sourceStale, Bool.and_eq_true, decide_eq_true_eq] at h
    exact portKept_withUp rfl ⟨rfl, rfl, rfl, by simp [h.1]⟩
  · exact portKept_of_up rfl

theorem portKept_trackerLimit (p q : Up) (s : State) : portKept p s (trackerLimit q s) := by
  unfold trackerLimit
  (repeat' split)
  · exact portKept_withUp rfl ⟨rfl, rfl, rfl, Iff.rfl⟩
  · exact portKept_of_up rfl
  · exact portKept_of_up rfl

theorem portKept_closeLate (p : Up) (s : State) : portKept p s (closeLate s) := by
  unfold closeLate
  (repeat' split)
  · exact portKept_withUp rfl ⟨rfl, rfl, rfl, Iff.rfl⟩
  · exact portKept_of_up rfl
  · exact portKept_of_up rfl

theorem portKept_receiverLimit (p : Up) (s : State) : portKept p s (receiverLimit s) := by
  unfold receiverLimit
  (repeat' split)
  · refine (portKept_closeLate p s).trans (portKept_of_touches (ps := [.selector, .incoming, .receiver, .causes]) ?_ (by simp))
    simp (maxDischargeDepth := 99)
  · exact portKept_of_up rfl
  · exact portKept_of_up rfl

theorem portKept_computeUnknownTargets (p : Up) (s : State) : portKept p s (computeUnknownTargets s) :=
  portKept_of_touches (touches_computeUnknownTargets (.refl [.drift, .causes] s) (by simp)) (by simp)

/-- The effect of a setting keeps every port's queue and link. -/
theorem portKept_settingEffect (p : Up) (n : SettingId) (s : State) : portKept p s (settingEffect n s) := by
  unfold settingEffect
  split
  · exact portKept_settle p s
  · unfold sourceLossBoth
    split
    · exact ((portKept_leaveUpIfStale p .ua s).trans (portKept_leaveUpIfStale p .ub _)).trans (portKept_settle p _)
    · exact portKept_of_up rfl
  · exact ((portKept_trackerLimit p .ua s).trans (portKept_trackerLimit p .ub _)).trans (portKept_receiverLimit p _)
  · exact portKept_of_touches (touches_holdLimit (.refl [.engine, .causes] s) (by simp)) (by simp)
  · exact portKept_of_touches (touches_repeatLimit
      (.refl [.d, .shown, .incoming, .receiver, .engine, .query, .drift, .level, .causes] s) (by simp)) (by simp)
  · exact portKept_of_touches (touches_chooseAndBegin (.refl [.d, .engine, .query] s) (by simp)) (by simp)
  · exact portKept_of_touches (touches_queryLimit _ (touches_queryLimit _
      (.refl [.d, .engine, .tiles, .query, .drift, .causes] s) (by simp)) (by simp)) (by simp)
  · exact portKept_computeUnknownTargets p s
  · exact portKept_computeUnknownTargets p s
  · exact portKept_computeUnknownTargets p s
  · exact portKept_of_up rfl

theorem portKept_writeSettingBody (p : Up) (n : Byte) (v : W32) (s : State) :
    portKept p s (writeSettingBody n v s).1 := by
  unfold writeSettingBody
  (repeat' split)
  · exact (portKept_of_up (by simp)).trans (portKept_settingEffect p _ _)
  · exact portKept_of_up rfl
  · exact portKept_of_up rfl

/-- The execution of a request keeps the queues and the links. -/
theorem portKept_body {i : Instr} {r : Request} (hr : requestOf i = some r) (p : Up) (s : State) :
    portKept p s (r.body s).1 := by
  by_cases h : Part.up p ∈ bodyParts i
  · cases i <;> simp only [bodyParts, List.mem_cons, reduceCtorEq, List.not_mem_nil, or_self, Part.up.injEq] at h
    case writeSetting q tag n v =>
      simp only [requestOf, Option.some.injEq] at hr
      subst hr
      simp only [writeSettingReq, editRequest]
      split
      · exact portKept_of_up rfl
      · exact portKept_writeSettingBody p n v s
  · exact portKept_of_touches (touches_body hr (.refl (bodyParts i) s) (List.Subset.refl _)) h

/-! ## Bodies as chains -/

section
variable {W R : Prop} {s t : State}

theorem acts_raiseMirrors (k : SlotId) (h : Acts W R s t) : Acts W R s (raiseMirrors k t) :=
  acts_forSlots (fun j u hu => by
    (repeat' split)
    · exact acts_raise _ _ hu
    · exact hu
    · exact hu) h

theorem acts_acceptPlan {k : SlotId} {e : RawPlan} {p : Plan} (he : decodePlan e = some p)
    (hp : planRefusal t.plans k p = none) (h : Acts W R s t) : Acts W R s (acceptPlan k p t) := by
  unfold acceptPlan
  dsimp only
  split
  · exact h
  · next hne =>
    have h1 : Acts W R s (planPresence k p (storePlan k p t)) := h.tail (.writePlan t k e p he hp hne)
    refine acts_chooseAndBegin ?_
    split
    · exact acts_raiseMirrors k h1
    · exact h1

theorem acts_writePlanBody (slot : Byte) (e : RawPlan) (h : Acts W R s t) : Acts W R s (writePlanBody slot e t).1 := by
  unfold writePlanBody
  (repeat' split)
  · exact h
  · exact acts_acceptPlan ‹_› ‹_› h
  · exact h
  · exact h

theorem acts_writeBandBody (slot band : Byte) (e : RawBand) (h : Acts W R s t) :
    Acts W R s (writeBandBody slot band e t).1 := by
  unfold writeBandBody
  (repeat' split)
  · exact h.tail (.bands t _)
  · exact h
  · exact h

theorem acts_computeUnknownTargets (h : Acts W R s t) : Acts W R s (computeUnknownTargets t) :=
  acts_forSlots (fun k u hu => by split; exacts [hu.tail (.computeTargets u k), hu]) h

/-- The value a write stores lies in the range of its setting (R182). -/
theorem settingStored_inRange {n : SettingId} {x v : Int} (h : settingStored n x = some v) :
    (settingRow n).lo ≤ v ∧ v ≤ (settingRow n).hi := by
  have hrow : (settingRow n).lo ≤ (settingRow n).hi := by clear h; revert n; decide
  unfold settingStored at h
  dsimp only at h
  split at h
  · split at h
    · next hr => exact Option.some.inj h ▸ hr
    · exact nomatch h
  · rw [← Option.some.inj h, clampInt]
    omega

theorem acts_storeSetting {n : SettingId} {v : Int} (hv : (settingRow n).lo ≤ v ∧ v ≤ (settingRow n).hi)
    (h : Acts W R s t) : Acts W R s (storeSetting n v t) := by
  unfold storeSetting
  by_cases hn : n = 0
  · subst hn
    exact h.tail (.preferred t v hv)
  · have h1 := h.tail (.setting t n v hn hv)
    unfold settingEffect
    split
    · next h0 => exact absurd (Fin.ext h0) hn
    · exact acts_sourceLossBoth h1
    · exact acts_receiverLimit (acts_trackerLimit _ (acts_trackerLimit _ h1))
    · exact acts_holdLimit h1
    · exact acts_repeatLimit h1
    · exact acts_chooseAndBegin h1
    · exact acts_queryLimit _ (acts_queryLimit _ h1)
    · exact acts_computeUnknownTargets h1
    · exact acts_computeUnknownTargets h1
    · exact acts_computeUnknownTargets h1
    · exact h1

theorem acts_writeSettingBody (n : Byte) (v : W32) (h : Acts W R s t) : Acts W R s (writeSettingBody n v t).1 := by
  unfold writeSettingBody
  (repeat' split)
  · exact acts_storeSetting (settingStored_inRange ‹_›) h
  · exact h
  · exact h

theorem acts_libOpenBody {p : Up} (id : W64) (hp : W → (t.up p).state ≠ .down) (h : Acts W R s t) :
    Acts W R s (libOpenBody p id t).1 := by
  unfold libOpenBody
  (repeat' split)
  · exact h
  · exact h
  · next hid =>
    refine h.tail (.load t _ fun hW _ l hl => ?_)
    simp only [State.withLoad_fields, Option.some.injEq] at hl
    subst hl
    exact ⟨by simpa using hp hW, hid, Nat.zero_le 223⟩

theorem acts_libPutBody (p : Up) (pointer : W16) (words : List W16) (h : Acts W R s t) :
    Acts W R s (libPutBody p pointer words t).1 := by
  unfold libPutBody
  (repeat' split)
  · exact h
  · exact h
  · exact h
  · exact h
  · next l hl _ _ hfit =>
    refine h.tail (.load t _ fun _ hlaw m hm => ?_)
    simp only [State.withLoad_fields, Option.some.injEq] at hm
    subst hm
    obtain ⟨h1, h2, -⟩ := hlaw l hl
    exact ⟨by simpa using h1, h2, by simpa [Config.maxWords] using hfit⟩

theorem acts_noLoad (h : Acts W R s t) : Acts W R s (t.withLoad none) := h.tail (.load t none fun _ _ _ hl => nomatch hl)

theorem acts_libCloseBody (p : Up) (h : Acts W R s t) : Acts W R s (libCloseBody p t).1 := by
  unfold libCloseBody
  split
  · exact h
  · next l hl =>
    split
    · exact h
    · split
      · dsimp only
        split
        · exact acts_noLoad h
        · exact h
      · next hc =>
        dsimp only
        exact h.tail (.install t l hl hc)

theorem acts_libAbortBody (p : Up) (h : Acts W R s t) : Acts W R s (libAbortBody p t).1 := by
  unfold libAbortBody
  (repeat' split)
  · exact h
  · exact h
  · exact acts_noLoad h

theorem acts_libDeleteBody (id : W64) (h : Acts W R s t) : Acts W R s (libDeleteBody id t).1 := by
  unfold libDeleteBody
  split
  · next hr =>
    dsimp only
    exact h.tail (.delete t id hr)
  · exact h

theorem acts_setEditFlag {p : Up} (hp : W → (t.up p).state ≠ .down) (h : Acts W R s t) :
    Acts W R s (setEditFlag p t).1 := by
  unfold setEditFlag
  split
  · exact h
  · exact h.tail (.takeFlag t p hp)

theorem acts_clearEditFlag (p : Up) (h : Acts W R s t) : Acts W R s (clearEditFlag p t).1 := by
  unfold clearEditFlag
  (repeat' split)
  · exact h.tail (.dropFlag t)
  · exact h
  · exact h

theorem acts_flagSetBody {p : Up} (flag : Byte) (hp : W → (t.up p).state ≠ .down) (h : Acts W R s t) :
    Acts W R s (flagSetBody p flag t).1 := by
  unfold flagSetBody
  (repeat' split)
  · exact acts_setEditFlag hp h
  · exact h.tail (.flag t _ _ ‹_›)
  · exact h

theorem acts_flagClearBody (p : Up) (flag : Byte) (h : Acts W R s t) : Acts W R s (flagClearBody p flag t).1 := by
  unfold flagClearBody
  (repeat' split)
  · exact acts_clearEditFlag p h
  · exact h.tail (.flag t _ _ ‹_›)
  · exact h

theorem acts_flagChangeBody {p : Up} (flag : Byte) (hp : W → (t.up p).state ≠ .down) (h : Acts W R s t) :
    Acts W R s (flagChangeBody p flag t).1 := by
  unfold flagChangeBody
  split
  · split
    · split
      · exact acts_clearEditFlag p h
      · exact acts_setEditFlag hp h
    · exact h.tail (.flag t _ _ ‹_›)
  · exact h

theorem acts_clearCausesBody (set : W16) (h : Acts W R s t) : Acts W R s (clearCausesBody set t).1 := by
  have h1 : Acts W R s (clearNamed set t) := by
    refine h.tail (.causes t _ fun c hc => ?_)
    rw [Table.get_tabulate]
    split
    · exact CauseEntry.lawful_cleared hc
    · exact hc
  unfold clearCausesBody
  dsimp only
  split
  · exact h1.tail (.counts _ _)
  · exact h1

theorem acts_writeCauseControlBody (cause enable level : Byte) (h : Acts W R s t) :
    Acts W R s (writeCauseControlBody cause enable level t).1 := by
  unfold writeCauseControlBody
  (repeat' split)
  · exact h.tail (.causes t _ (lawful_set fun ⟨h1, h2, h3, h4, _⟩ => ⟨h1, h2, h3, h4, Nat.min_le_left _ _⟩))
  · exact h
  · exact h

theorem acts_probeSlotsBody (set : W16) (h : Acts W R s t) : Acts W R s (probeSlotsBody set t).1 :=
  acts_chooseAndBegin (acts_forSlots (fun k u hu => by split; exacts [acts_probeNamed k hu, hu]) h)

theorem acts_senseSlotBody (slot : Byte) (h : Acts W R s t) : Acts W R s (senseSlotBody slot t).1 := by
  unfold senseSlotBody
  (repeat' split)
  · exact h
  · exact h
  · next hi hk =>
    simp only [Bool.not_eq_true', Bool.not_eq_false] at hi
    exact acts_chooseAndBegin (h.tail (.listSense t _ hi hk))
  · exact h

theorem acts_restartPart (h : Acts W R s t) : Acts W R s (restartPart t) :=
  acts_chooseAndBegin (h.tail (.restartValues t))

theorem acts_restartBody {p : Up} (tag : W16) (hs : t.restart = none) (hroom : (t.up p).queue.length < 32)
    (h : Acts W R s t) : Acts W R s (restartBody p tag t).1 := by
  unfold restartBody
  split
  · exact h.tail (.waitRestart t p tag hs hroom)
  · exact acts_restartPart h

/-- An edit is a chain of actions if its body is, for it is refused without a change. -/
theorem acts_editRequest {p : Up} {tag : W16} {code : Byte} {body : State → State × Answer}
    (hb : Acts W R s (body t).1) (h : Acts W R s t) : Acts W R s ((editRequest p tag code body).body t).1 := by
  simp only [editRequest]
  split
  · exact h
  · exact hb

/-- The execution of a request, on a port that is not DOWN and has room, while no restart waits. -/
theorem acts_body {i : Instr} {r : Request} (hr : requestOf i = some r) (hp : W → (t.up r.port).state ≠ .down)
    (hroom : (t.up r.port).queue.length < 32) (hs : t.restart = none) (h : Acts W R s t) :
    Acts W R s (r.body t).1 := by
  cases i <;> simp only [requestOf, Option.some.injEq, reduceCtorEq] at hr <;> subst hr
  case writeSetting p tag n v => exact acts_editRequest (acts_writeSettingBody n v h) h
  case writePlan p tag k e => exact acts_editRequest (acts_writePlanBody k e h) h
  case writeBand p tag k b e => exact acts_editRequest (acts_writeBandBody k b e h) h
  case libOpen p tag id => exact acts_editRequest (acts_libOpenBody id hp h) h
  case libPut p tag pointer words =>
    simp only [libPutReq]
    split
    · exact h
    · exact acts_editRequest (acts_libPutBody p pointer words h) h
  case libClose p tag => exact acts_editRequest (acts_libCloseBody p h) h
  case libAbort p tag => exact acts_editRequest (acts_libAbortBody p h) h
  case libDelete p tag id => exact acts_editRequest (acts_libDeleteBody id h) h
  case setLevel p tag v => exact acts_editRequest (h.tail (.level t _)) h
  case flagSet p tag f => exact acts_flagSetBody f hp h
  case flagClear p tag f => exact acts_flagClearBody p f h
  case flagChange p tag f => exact acts_flagChangeBody f hp h
  case clearCauses p tag c => exact acts_editRequest (acts_clearCausesBody c h) h
  case writeCauseControl p tag c e l => exact acts_editRequest (acts_writeCauseControlBody c e l h) h
  case probeSlots p tag k => exact acts_editRequest (acts_probeSlotsBody k h) h
  case senseSlot p tag k => exact acts_editRequest (acts_senseSlotBody k h) h
  case restart p tag =>
    simp only [restartReq]
    split
    · exact h
    · exact acts_restartBody tag hs hroom h
  all_goals exact h

/-- A request that answers has left the restart as it found it. -/
theorem restart_of_answer {i : Instr} {r : Request} (hr : requestOf i = some r) {a : Answer}
    (ha : (r.body s).2 = some a) : (r.body s).1.restart = s.restart := by
  by_cases h : Part.restart ∈ bodyParts i
  · cases i <;> simp only [bodyParts, List.mem_cons, reduceCtorEq, List.not_mem_nil, or_self] at h
    case restart p tag =>
      simp only [requestOf, Option.some.injEq] at hr
      subst hr
      simp only [restartReq, restartBody] at ha ⊢
      split
      · rfl
      · next hn =>
        rw [if_neg hn] at ha
        split
        · next hb => rw [if_pos hb] at ha; exact nomatch ha
        · exact touches_restartPart (.refl
            [.d, .selector, .shown, .incoming, .receiver, .engine, .counts, .tiles, .query, .load, .drift, .causes] s)
            (by simp) .restart (by simp)
  · exact touches_body hr (.refl (bodyParts i) s) (List.Subset.refl _) .restart h

theorem acts_takeRequest {i : Instr} {r : Request} (hr : requestOf i = some r) (hp : W → (t.up r.port).state ≠ .down)
    (h : Acts W R s t) : Acts W R s (takeRequest i r t) := by
  unfold takeRequest
  split
  · next hw =>
    unfold holdRequest
    split
    · exact h.tail (.hold t i r.port (requestOf_port hr) hp ‹_› hw)
    · exact acts_countUnanswered _ h
  · next hw =>
    simp only [Bool.not_eq_true, Option.isSome_eq_false_iff, Option.isNone_iff_eq_none] at hw
    split
    · next hroom =>
      rw [State.hasRoom_iff] at hroom
      have hb := acts_body hr hp hroom hw h
      obtain ⟨hq, hd⟩ := portKept_body hr r.port t
      obtain ⟨a, ha, e⟩ | ⟨-, e⟩ := serve_cases r t
      · rw [e]
        refine hb.tail (.enqueue _ r.port _ (fun hW => ?_) (fun _ => hq ▸ hroom) ?_)
        · exact fun hdown => hp hW (hd.down.mp hdown)
        · rw [restart_of_answer hr ha, hw]
          exact fun _ he => nomatch he
      · rw [e]
        exact hb
    · exact acts_countUnanswered _ h

/-- A request taken keeps every port's link. -/
theorem takeRequest_sameLink {i : Instr} {r : Request} (hr : requestOf i = some r) (p : Up) (s : State) :
    (s.up p).SameLink ((takeRequest i r s).up p) := by
  have hcount : (s.up p).SameLink ((countUnanswered r.port s).up p) := by
    unfold countUnanswered
    refine sameLink_withUp ?_ p
    exact ⟨rfl, rfl, rfl, Iff.rfl⟩
  unfold takeRequest
  split
  · unfold holdRequest
    split
    · rw [State.withWaiting_up]
      exact .refl _
    · exact hcount
  · split
    · obtain ⟨-, hb⟩ := portKept_body hr p s
      obtain ⟨a, -, e⟩ | ⟨-, e⟩ := serve_cases r s
      · rw [e, State.enqueue]
        refine hb.trans (sameLink_withUp ?_ p)
        exact ⟨rfl, rfl, rfl, Iff.rfl⟩
      · rw [e]; exact hb
    · exact hcount

/-- A request that waited, taken, keeps every port's link. -/
theorem takeWaiting_sameLink (i : Instr) (p : Up) (s : State) : (s.up p).SameLink ((takeWaiting s i).up p) := by
  unfold takeWaiting
  split
  · exact takeRequest_sameLink ‹_› p s
  · exact .refl _

/-- The requests that waited, taken one after another, at ports that are not DOWN. -/
theorem acts_takeWaiting (l : List Instr)
    (hl : W → ∀ i ∈ l, ∃ p, Instr.requestPort i = some p ∧ (t.up p).state ≠ .down) (h : Acts W R s t) :
    Acts W R s (l.foldl takeWaiting t) := by
  induction l generalizing t with
  | nil => exact h
  | cons i l ih =>
    have hi : Acts W R s (takeWaiting t i) := by
      unfold takeWaiting
      split
      · next r hr =>
        refine acts_takeRequest hr (fun hW => ?_) h
        obtain ⟨p, hp, hd⟩ := hl hW i List.mem_cons_self
        rw [requestOf_port hr, Option.some.injEq] at hp
        exact hp ▸ hd
      · exact h
    refine ih (fun hW j hj => ?_) hi
    obtain ⟨p, hp, hd⟩ := hl hW j (List.mem_cons_of_mem i hj)
    exact ⟨p, hp, fun hdown => hd ((takeWaiting_sameLink i p t).down.mp hdown)⟩

/-! ## Steps as chains -/

/-- A waiting RESTART whose reply is not lost has room for it (R186). -/
def roomLaw (s : State) : Prop :=
  ∀ w, s.restart = some w → w.replyLost = false → (s.up w.port).queue.length < 32

theorem restartPart_up (p : Up) (s : State) : (restartPart s).up p = s.up p :=
  touches_restartPart (.refl
    [.d, .selector, .shown, .incoming, .receiver, .engine, .counts, .tiles, .query, .load, .drift, .causes] s)
    (by simp) (.up p) (by simp)

theorem restartPart_restart (s : State) : (restartPart s).restart = s.restart :=
  touches_restartPart (.refl
    [.d, .selector, .shown, .incoming, .receiver, .engine, .counts, .tiles, .query, .load, .drift, .causes] s)
    (by simp) .restart (by simp)

theorem acts_replyRestart (w : RestartWait) (hs : t.restart = none)
    (hroom : R → w.replyLost = false → (t.up w.port).queue.length < 32) (h : Acts W R s t) :
    Acts W R s (replyRestart w t) := by
  unfold replyRestart
  split
  · exact h
  · next hl =>
    simp only [Bool.or_eq_true, Bool.not_eq_true', not_or, Bool.not_eq_true, Bool.not_eq_false] at hl
    exact h.tail (.enqueue t w.port _ (fun _ => (State.takesCells_iff _ _).mp hl.2) (fun hR => hroom hR hl.1)
      (by simp [hs]))

/-- The reply to a deferred RESTART leaves every port DOWN or not as it was. -/
theorem replyRestart_state (w : RestartWait) (p : Up) (s : State) : ((replyRestart w s).up p).state = (s.up p).state := by
  unfold replyRestart
  split
  · rfl
  · rw [State.enqueue, State.withUp_up]
    split
    · next h => subst h; rfl
    · rfl

theorem acts_deferredRestart (hW : W → waitingLaw t) (hR : R → roomLaw t) (h : Acts W R s t) :
    Acts W R s (deferredRestart t) := by
  unfold deferredRestart
  split
  · next w hw =>
    split
    · have h1 : Acts W R s (restartPart (endWait t)) := acts_restartPart (h.tail (.endWait t))
      have h2 : Acts W R s (replyRestart w (restartPart (endWait t))) := by
        refine acts_replyRestart w (by rw [restartPart_restart]; simp [endWait]) (fun hr hl => ?_) h1
        rw [restartPart_up]
        simpa [endWait] using hR hr w hw hl
      refine acts_takeWaiting _ (fun hw i hi => ?_) (acts_beginNext (acts_blankRestarts w.blanks h2))
      obtain ⟨p, hp, hd⟩ := hW hw i hi
      refine ⟨p, hp, ?_⟩
      have hup : (beginNext (blankRestarts w.blanks (replyRestart w (restartPart (endWait t))))).up p =
          (replyRestart w (restartPart (endWait t))).up p :=
        touches_beginNext (touches_blankRestarts w.blanks (.refl
          [.d, .query, .shown, .incoming, .receiver, .engine, .drift, .level, .causes] _) (by simp)) (by simp)
          (.up p) (by simp)
      show ((beginNext (blankRestarts w.blanks (replyRestart w (restartPart (endWait t))))).up p).state ≠ .down
      rw [hup, replyRestart_state, restartPart_up]
      simpa [endWait] using hd
    · exact h
  · exact h

/-- A command is a chain of actions. -/
theorem exec_acts (i : Instr) (hW : W → waitingLaw s) (hR : R → roomLaw s) : ∃ t, exec i s = .next t ∧ Acts W R s t := by
  cases hr : requestOf i with
  | some r =>
    exact ⟨_, exec_request hr s, acts_upCell (fun u hu h => acts_takeRequest hr (fun _ => hu) h) .refl⟩
  | none =>
    cases i <;> simp only [requestOf, reduceCtorEq] at hr <;> refine ⟨_, rfl, ?_⟩
    case crcFailedCell p => split; exacts [.refl, acts_crcFailed p .refl]
    case lossOfSignal p b =>
      refine acts_portDown p (acts_setLost p true ?_)
      split
      · exact acts_crcFailed p .refl
      · exact .refl
    case foreignCell p c =>
      cases p with
      | up q => exact acts_upCell (fun _ _ h => acts_countForeign q h) .refl
      | d => exact acts_dCell (fun _ h => acts_countStray h) .refl
    case frameOpen p n =>
      refine acts_upCell (fun u hu h => ?_) .refl
      have h1 := acts_trackOpen n hu h
      dsimp only
      split
      · next ha => exact h1.tail (.receiveOpen _ n (by simp [trackOpen, ha]))
      · exact h1
    case pixelRun p l c px =>
      refine acts_upCell (fun u hu h => ?_) .refl
      (repeat' split)
      · exact acts_countForeign p h
      · exact h.tail (.receiveRun u _ _ _)
      · exact h
    case frameClose p n =>
      refine acts_upCell (fun u hu h => ?_) .refl
      have h1 := acts_trackClose n hu h
      dsimp only
      split
      · exact acts_receiveClose n h1
      · exact h1
    case ident => exact acts_dCell (fun _ h => acts_takeIdent _ _ _ h) .refl
    case senseReply => exact acts_dCell (fun _ h => acts_takeSenseReply _ _ _ _ _ h) .refl
    case tileAlert => exact acts_dCell (fun _ h => acts_forwardAlert _ .ub (acts_forwardAlert _ .ua h)) .refl
    case returnCellSent p => exact Acts.refl.tail (.dequeue s p)
    case trackerLimitExpiry p => exact acts_trackerLimit p .refl
    case sourceLossTimeExpiry p => exact acts_sourceLoss p .refl
    case frameOpenLimitExpiry => exact acts_receiverLimit .refl
    case restartAtScanEnd => exact acts_deferredRestart hW hR .refl
    case scanEnd => split; exacts [acts_endScan .refl, .refl]
    case tilePixelsSent =>
      split
      · exact acts_beginNext (acts_formIfNeeded (Acts.refl.tail (.d s _)))
      · exact .refl
    case repeatTimerExpiry => exact acts_repeatLimit .refl
    case blanknAssertion => split; exacts [.refl, acts_assertBlank .refl]
    case blanknDeassertion => exact Acts.refl.tail (.engine s _ rfl rfl)
    case holdLimitExpiry => exact acts_holdLimit .refl
    case probeSent => split; exacts [acts_txDone (acts_fixSent .refl), .refl]
    case senseRequestSent => split; exacts [acts_txDone (acts_fixSent .refl), .refl]
    case probeTimeout => exact acts_queryLimit _ .refl
    case senseTimeout => exact acts_queryLimit _ .refl
    case probeDue k => exact acts_probeReached k .refl
    case loadLimitExpiry => exact acts_loadLimit .refl
    case noticeOffer => exact acts_noticeOffer .refl
    case powerReset => exact Acts.refl.tail (.powerReset s)
    case symbolsReturn p => exact acts_setLost p false .refl

theorem acts_tick (hW : W → waitingLaw s) (hR : R → roomLaw s) : Acts W R s (tick s) := by
  refine Acts.tail ?_ (.advance _)
  exact acts_noticeOffer (acts_repeatLimit (acts_probesReached (acts_queryLimit _ (acts_queryLimit _ (acts_loadLimit
    (acts_holdLimit (acts_sourceLoss _ (acts_sourceLoss _ (acts_receiverLimit (acts_trackerLimit _ (acts_trackerLimit _
      (acts_deferredRestart hW hR .refl))))))))))))

theorem Acts.trans {u : State} (h : Acts W R s t) (g : Acts W R t u) : Acts W R s u :=
  g.keeps (P := Acts W R s) (fun _ _ _ a hs => hs.tail a) h

/-- A step is a chain of actions. -/
theorem step_acts (hW : W → waitingLaw s) (hR : R → roomLaw s) (h : step s = .next t) : Acts W R s t := by
  unfold step at h
  split at h
  · next c rest _ =>
    have h0 : Acts W R s (s.withPending rest) := Acts.refl.tail (.pending s rest)
    obtain ⟨u, hu, ha⟩ := exec_acts (W := W) (R := R) (s := s.withPending rest) c
      (fun w i hi => by simpa using hW w i (by simpa using hi)) (fun r w hw => by simpa using hR r w (by simpa using hw))
    rw [hu, Host.Outcome.next.injEq] at h
    exact h ▸ h0.trans ha
  · rw [Host.Outcome.next.injEq] at h
    exact h ▸ acts_tick hW hR

/-- What every action keeps, a step keeps. -/
theorem step_keeps {P : State → Prop} (W R : Prop) (hW : W → waitingLaw s) (hR : R → roomLaw s)
    (hP : ∀ ps u v, Act W R ps u v → P u → P v) (h : step s = .next t) (hs : P s) : P t :=
  (step_acts hW hR h).keeps hP hs

end

end Sys2Proof.Machine
end

section
/-! PROOFS. The laws of plans, images and library (R22, R27, R35, R81) action by action, and O54. -/

namespace Sys2Proof.Machine

/-! ## Plans -/

theorem Plan.overlaps_comm (p q : Plan) : p.overlaps q = q.overlaps p := by
  cases p <;> cases q <;> try rfl
  simp only [Plan.overlaps, rangesMeet]
  rw [Bool.and_comm (decide (_ < _)), Bool.and_comm (decide (CanvasPlan.column _ < _))]

theorem overlapsOthers_eq_false_iff (plans : Table Plan 16) (k : SlotId) (p : Plan) :
    overlapsOthers plans k p = false ↔ ∀ j, j ≠ k → p.overlaps (plans.get j) = false := by
  unfold overlapsOthers
  rw [List.any_eq_false]
  constructor
  · intro h j hj
    simpa [hj] using h j (mem_allSlots j)
  · intro h j _
    by_cases hj : j = k
    · simp [hj]
    · simp [h j hj]

/-- R27, slot by slot. -/
theorem plansLawful_iff (plans : Table Plan 16) :
    plansLawful plans = true ↔
      (∀ k j, j ≠ k → (plans.get k).overlaps (plans.get j) = false) ∧ totalArea plans ≤ Config.canvasArea := by
  unfold plansLawful
  rw [Bool.and_eq_true, decide_eq_true_iff, List.all_eq_true]
  refine and_congr_left' ⟨fun h k => ?_, fun h k _ => ?_⟩
  · exact (overlapsOthers_eq_false_iff _ _ _).mp (by simpa using h k (mem_allSlots k))
  · simpa using (overlapsOthers_eq_false_iff _ _ _).mpr (h k)

/-- One entry of a list of areas replaced. -/
theorem sum_map_set {α : Type} (f : α → Nat) (l : List α) (i : Nat) (h : i < l.length) (a : α) :
    ((l.set i a).map f).sum + f l[i] = (l.map f).sum + f a := by
  induction l generalizing i with
  | nil => exact absurd h (Nat.not_lt_zero i)
  | cons x l ih =>
    cases i with
    | zero => simp; omega
    | succ i =>
      have := ih i (by simpa using h)
      simp at this ⊢
      omega

theorem totalArea_set (plans : Table Plan 16) (k : SlotId) (p : Plan) :
    totalArea (plans.set k p) + (plans.get k).area = totalArea plans + p.area :=
  sum_map_set Plan.area plans.entries k.val (by rw [plans.size]; exact k.isLt) p

theorem Plan.area_of_not_canvas {p : Plan} (h : p.isCanvas = false) : p.area = 0 := by
  cases p <;> simp_all [Plan.isCanvas, Plan.area]

/-- What checks 5 and 6 of R25 leave of an accepted entry. -/
theorem of_planRefusal_eq_none {plans : Table Plan 16} {k : SlotId} {p : Plan} (h : planRefusal plans k p = none) :
    onCanvas p = true ∧ targetOk plans k p = true ∧ overlapsOthers plans k p = false ∧
      (p.isCanvas = true → totalArea (plans.set k p) ≤ Config.canvasArea) := by
  unfold planRefusal at h
  repeat' split at h
  all_goals simp_all

/-- An entry of kind CANVAS that decodes has a footprint in its size range (R22). -/
theorem size_of_decodePlan {e : RawPlan} {c : CanvasPlan} (h : decodePlan e = some (.canvas c)) :
    16 ≤ c.width ∧ c.width ≤ 256 ∧ 16 ≤ c.height ∧ c.height ≤ 256 := by
  unfold decodePlan at h
  split at h
  case h_2 =>
    simp only [Option.bind_eq_bind, Option.bind_eq_some_iff] at h
    obtain ⟨dark, -, mirror, -, o, -, h⟩ := h
    split at h
    · next hs =>
      simp only [sizeOk, Bool.and_eq_true, decide_eq_true_eq] at hs
      obtain ⟨⟨-, ⟨hw1, hw2⟩, -⟩, ⟨hh1, hh2⟩, -⟩ := hs
      simp only [Option.some.injEq, Plan.canvas.injEq] at h
      subst h
      exact ⟨hw1, hw2, hh1, hh2⟩
    · exact nomatch h
  all_goals
    simp only [Option.bind_eq_bind, Option.bind_eq_some_iff, Option.some.injEq, reduceCtorEq] at h
  · obtain ⟨_, _, _, _, h⟩ := h
    exact nomatch h
  · obtain ⟨_, _, _, _, h⟩ := h
    exact nomatch h
  · obtain ⟨_, _, _, _, h⟩ := h
    split at h <;> exact nomatch h

/-- The plans after an accepted write: its slot's entry replaced. -/
theorem plans_writePlan (k : SlotId) (p : Plan) (s : State) :
    (planPresence k p (storePlan k p s)).plans = s.plans.set k p := by
  have h : (storePlan k p s).plans = s.plans.set k p := by
    unfold storePlan; dsimp only; split <;> simp [resetImages]
  rw [← h]
  exact touches_planPresence k p (.refl [.tiles, .query, .drift, .causes] _) (by simp) .plans (by simp)

section
variable {W R : Prop} {ps : List Part} {s t : State}

theorem planLaw_of_plans (h : t.plans = s.plans) (hs : planLaw s) : planLaw t := by
  unfold planLaw; rw [h]; exact hs

theorem planLaw_set {k : SlotId} {e : RawPlan} {p : Plan} (he : decodePlan e = some p)
    (hp : planRefusal s.plans k p = none) (ht : t.plans = s.plans.set k p) (hs : planLaw s) : planLaw t := by
  obtain ⟨hl, hsize⟩ := hs
  obtain ⟨hno, harea⟩ := (plansLawful_iff _).mp hl
  obtain ⟨-, -, hover, hfull⟩ := of_planRefusal_eq_none hp
  rw [overlapsOthers_eq_false_iff] at hover
  refine ⟨(plansLawful_iff _).mpr ⟨fun i j hij => ?_, ?_⟩, fun j c hj => ?_⟩
  · rw [ht, Table.get_set, Table.get_set]
    split
    · next hi =>
      subst hi
      rw [if_neg (Ne.symm hij)]
      exact hover j hij
    · next hi =>
      split
      · next hjk =>
        subst hjk
        rw [Plan.overlaps_comm]
        exact hover i (Ne.symm hi)
      · exact hno i j hij
  · rw [ht]
    cases hc : p.isCanvas with
    | true => exact hfull hc
    | false =>
      have := totalArea_set s.plans k p
      rw [Plan.area_of_not_canvas hc] at this
      omega
  · rw [ht, Table.get_set] at hj
    split at hj
    · exact size_of_decodePlan (hj ▸ he)
    · exact hsize j c hj

theorem planLaw_reset : planLaw State.reset := by
  refine ⟨by decide, fun k c h => ?_⟩
  have : State.reset.plans.get k = .none := Table.get_replicate _ k
  rw [this] at h
  exact nomatch h

/-- Only an accepted WRITE-PLAN and a power reset touch the plans. -/
theorem planLaw_act (h : Act W R ps s t) (hs : planLaw s) : planLaw t := by
  by_cases hd : Part.plans ∈ ps
  · cases h <;> simp only [List.mem_cons, reduceCtorEq, List.not_mem_nil, or_self, or_false] at hd
    case writePlan k e p he hp hne => exact planLaw_set he hp (plans_writePlan k p s) hs
    case powerReset => exact planLaw_of_plans (s := State.reset) rfl planLaw_reset
  · exact planLaw_of_plans (h.touches .plans hd) hs

/-! ## Images -/

theorem imageLaw_of_same (hshown : t.shown = s.shown) (hincoming : t.incoming = s.incoming) (hplans : t.plans = s.plans)
    (hs : imageLaw s) : imageLaw t := by
  unfold imageLaw; rw [hshown, hincoming, hplans]; exact hs

/-- Images kept by an operation that touches none of them and no plan. -/
theorem imageLaw_of_touches (h : Touches ps s t) (hshown : Part.shown ∉ ps) (hincoming : Part.incoming ∉ ps)
    (hplans : Part.plans ∉ ps) (hs : imageLaw s) : imageLaw t :=
  imageLaw_of_same (h .shown hshown) (h .incoming hincoming) (h .plans hplans) hs

theorem imageLaw_black (hplans : t.plans = s.plans) (hshown : t.shown = s.shown)
    (hincoming : t.incoming = Table.replicate 16 []) (hs : imageLaw s) : imageLaw t := by
  intro k
  obtain ⟨h1, -, h3⟩ := hs k
  rw [hshown, hincoming, hplans, Table.get_replicate]
  exact ⟨h1, rfl, fun hc => ⟨(h3 hc).1, rfl⟩⟩

theorem imageLaw_abandonFrame (hs : imageLaw s) : imageLaw (abandonFrame s) := by
  unfold abandonFrame
  split
  · exact imageLaw_black (by simp) (by simp) (by simp) hs
  · exact hs

theorem imageLaw_beginFrame (m : W16) (hs : imageLaw s) : imageLaw (beginFrame m s) := by
  intro k
  obtain ⟨h1, h2, h3⟩ := hs k
  simp only [beginFrame, State.withReceiver_fields, State.withIncoming_fields, Table.get_tabulate]
  refine ⟨h1, ?_, fun hc => ⟨(h3 hc).1, ?_⟩⟩
  · split
    · exact h1
    · exact h2
  · rw [if_neg (by simp [hc])]
    exact (h3 hc).2

theorem imageLaw_switchSource (x : Option Up) (hs : imageLaw s) : imageLaw (switchSource x s) :=
  imageLaw_of_touches (touches_switchSource x (.refl _ s) (List.Subset.refl _)) (by simp) (by simp) (by simp) hs

theorem imageLaw_carrySwitch (hs : imageLaw s) : imageLaw (carrySwitch s) :=
  imageLaw_of_touches (touches_carrySwitch (.refl _ s) (List.Subset.refl _)) (by simp) (by simp) (by simp) hs

theorem imageLaw_raise (c : Cause) (k : Option SlotId) (hs : imageLaw s) : imageLaw (raise c k s) :=
  imageLaw_of_touches (touches_raise c k (.refl _ s) (List.Subset.refl _)) (by simp) (by simp) (by simp) hs

theorem imageLaw_settle (hs : imageLaw s) : imageLaw (settle s) := by
  unfold settle
  (repeat' split)
  · exact imageLaw_switchSource _ hs
  · exact hs
  · exact imageLaw_switchSource _ (imageLaw_abandonFrame hs)
  · exact hs
  · exact hs
  · exact imageLaw_switchSource _ hs

theorem imageLaw_enterDown (p : Up) (hs : imageLaw s) : imageLaw (enterDown p s) := by
  unfold enterDown
  dsimp only
  split
  · exact imageLaw_of_same (by simp) (by simp) (by simp) hs
  · refine imageLaw_settle (imageLaw_of_touches (ps := [.up p, .load, .flags, .holder, .restart, .waiting, .causes])
      ?_ (by simp) (by simp) (by simp) hs)
    simp (maxDischargeDepth := 99)

theorem imageLaw_receiveOpen (m : W16) (hs : imageLaw s) : imageLaw (receiveOpen m s) := by
  unfold receiveOpen
  dsimp only
  have h1 := imageLaw_raise .frameSeq none (imageLaw_abandonFrame hs)
  (repeat' split)
  · exact imageLaw_carrySwitch h1
  · exact imageLaw_beginFrame m h1
  · exact imageLaw_beginFrame m (imageLaw_raise _ _ (imageLaw_of_same (by simp) (by simp) (by simp) hs))
  · exact imageLaw_beginFrame m hs

theorem placeRun_of_not_canvas {p : Plan} (h : p.isCanvas = false) (line column : Nat) (pixels : List RawPixel)
    (img : Image) : placeRun p line column pixels img = img := by
  cases p <;> simp_all [Plan.isCanvas, placeRun]

theorem imageLaw_receiveRun (line column : Nat) (pixels : List RawPixel) (hs : imageLaw s) :
    imageLaw (receiveRun line column pixels s) := by
  unfold receiveRun
  split
  · intro k
    obtain ⟨h1, h2, h3⟩ := hs k
    simp only [State.withIncoming_fields, Table.get_tabulate]
    refine ⟨h1, wf_placeRun _ _ _ _ _ h2, fun hc => ⟨(h3 hc).1, ?_⟩⟩
    rw [placeRun_of_not_canvas hc]
    exact (h3 hc).2
  · exact hs

theorem imageLaw_swap (hs : imageLaw s) : imageLaw (swap s) := by
  intro k
  obtain ⟨h1, h2, h3⟩ := hs k
  simp only [swap, State.withShown_fields, State.withIncoming_fields, State.withReceiver_fields, State.withEngine_fields,
    Table.get_tabulate, Table.get_replicate]
  refine ⟨?_, rfl, fun hc => ⟨?_, trivial⟩⟩
  · split
    · exact h2
    · exact h1
  · rw [if_neg (by simp [hc])]
    exact (h3 hc).1

theorem imageLaw_startScan (hs : imageLaw s) : imageLaw (startScan s) := by
  unfold startScan
  have h : ∀ u, imageLaw u → imageLaw (enterScanning (formLevel (slewAll u))) := fun u hu =>
    imageLaw_of_touches (touches_enterScanning (touches_formLevel (touches_slewAll
      (.refl [.engine, .drift, .level, .causes] u) (by simp)) (by simp)) (by simp)) (by simp) (by simp) (by simp) hu
  split
  · exact h _ (imageLaw_swap hs)
  · exact h _ hs

theorem imageLaw_afterScan (hs : imageLaw s) : imageLaw (afterScan s) := by
  unfold afterScan
  dsimp only
  split
  · exact imageLaw_startScan (imageLaw_of_same (by simp [abortScan]) (by simp [abortScan]) (by simp [abortScan]) hs)
  · exact imageLaw_of_same (by simp [abortScan]) (by simp [abortScan]) (by simp [abortScan]) hs

/-- A change of geometry is what makes a CANVAS entry another kind of entry. -/
theorem geometryChanged_of_isCanvas {old new : Plan} (h : old.isCanvas = true) (hn : new.isCanvas = false) :
    geometryChanged old new = true := by
  cases old <;> cases new <;> simp_all [Plan.isCanvas, geometryChanged]

theorem imageLaw_storePlan (k : SlotId) (p : Plan) (hs : imageLaw s) : imageLaw (storePlan k p s) := by
  intro j
  obtain ⟨h1, h2, h3⟩ := hs j
  unfold storePlan
  dsimp only
  split
  · simp only [resetImages, State.withShown_fields, State.withIncoming_fields, State.withPlans_fields, Table.get_set]
    split
    · exact ⟨rfl, rfl, fun _ => ⟨rfl, rfl⟩⟩
    · exact ⟨h1, h2, h3⟩
  · next hg =>
    simp only [State.withPlans_fields, Table.get_set]
    refine ⟨h1, h2, fun hc => h3 ?_⟩
    split at hc
    · next hk =>
      subst hk
      cases ho : (s.plans.get k).isCanvas with
      | true => exact absurd (geometryChanged_of_isCanvas ho hc) hg
      | false => rfl
    · exact hc

theorem imageLaw_restartValues (s : State) : imageLaw (restartValues s) := by
  refine imageLaw_carrySwitch fun k => ?_
  simp only [clearAllCauses, restartBlocks, restartDrift, restartChain, restartEngine, restartFrames,
    State.withCauses_fields, State.withLoad_fields, State.withDrift_fields, State.withQuery_fields, State.withTiles_fields,
    State.withCounts_fields, State.withEngine_fields, State.withShown_fields, State.withIncoming_fields,
    State.withReceiver_fields, Table.get_replicate]
  exact ⟨rfl, rfl, fun _ => ⟨trivial, trivial⟩⟩

theorem imageLaw_reset : imageLaw State.reset := by
  intro k
  have h1 : State.reset.shown.get k = [] := Table.get_replicate _ k
  have h2 : State.reset.incoming.get k = [] := Table.get_replicate _ k
  rw [h1, h2]
  exact ⟨rfl, rfl, fun _ => ⟨rfl, rfl⟩⟩

/-- The images, action by action. -/
theorem imageLaw_act (h : Act W R ps s t) (hs : imageLaw s) : imageLaw t := by
  by_cases hd : Part.shown ∈ ps ∨ Part.incoming ∈ ps ∨ Part.plans ∈ ps
  · cases h <;> simp only [List.mem_cons, reduceCtorEq, List.not_mem_nil, or_self, or_false] at hd
    case settle x y hx hy => exact imageLaw_settle (imageLaw_of_same (by simp) (by simp) (by simp) hs)
    case fall p hp => exact imageLaw_enterDown p hs
    case receiveOpen m hm => exact imageLaw_receiveOpen m hs
    case receiveRun line column pixels => exact imageLaw_receiveRun line column pixels hs
    case abandon c => exact imageLaw_carrySwitch (imageLaw_raise _ _ (imageLaw_abandonFrame hs))
    case readyShown =>
      exact imageLaw_startScan (imageLaw_carrySwitch (imageLaw_of_same (by simp) (by simp) (by simp) hs))
    case startScan => exact imageLaw_startScan hs
    case blankRestart =>
      exact imageLaw_startScan (imageLaw_of_same (by simp [abortScan]) (by simp [abortScan]) (by simp [abortScan]) hs)
    case afterScan => exact imageLaw_afterScan hs
    case writePlan k e p he hp hne =>
      exact imageLaw_of_touches (touches_planPresence k p (.refl _ _) (List.Subset.refl _)) (by simp) (by simp) (by simp)
        (imageLaw_storePlan k p hs)
    case preferred v hv => exact imageLaw_settle (imageLaw_of_same (by simp) (by simp) (by simp) hs)
    case restartValues => exact imageLaw_restartValues s
    case powerReset => exact imageLaw_of_same (s := State.reset) rfl rfl rfl imageLaw_reset
  · simp only [not_or] at hd
    exact imageLaw_of_touches h.touches hd.1 hd.2.1 hd.2.2 hs

/-! ## The library -/

theorem libraryLaw_of_records (h : t.records = s.records) (hs : libraryLaw s) : libraryLaw t := by
  unfold libraryLaw; rw [h]; exact hs

/-- What a LIB-CLOSE that is not refused says of its load (R87 to R89). -/
theorem of_closeRefusal_eq_none {records : List Record} {l : Load} (h : closeRefusal records l = none) :
    l.words.length = 31 + 3 * recDefects l.words ∧ firstBadWord l.identity l.words = none ∧
      libraryFull records l.identity l.words = false := by
  unfold closeRefusal at h
  dsimp only at h
  split at h
  · exact nomatch h
  split at h
  · exact nomatch h
  split at h
  · exact nomatch h
  split at h
  · exact nomatch h
  next hlo hhi =>
  split at h
  · exact nomatch h
  next hbad =>
  split at h
  · exact nomatch h
  next hfull =>
  refine ⟨?_, hbad, by simpa using hfull⟩
  unfold recordLength at hlo hhi
  omega

/-- The four words of an identity spell it. -/
theorem identityWord_append (id : W64) :
    identityWord id 0 ++ identityWord id 1 ++ identityWord id 2 ++ identityWord id 3 = id := by
  ext i hi
  have hbit : id.getLsbD i = id[i] := BitVec.getLsbD_eq_getElem (w := 64) hi
  simp only [identityWord, BitVec.getElem_append, BitVec.getElem_setWidth, BitVec.getLsbD_ushiftRight]
  split
  · simpa using hbit
  · split
    · rw [show 16 * (3 - 2) + (i - 16) = i by omega, hbit]
    · split
      · rw [show 16 * (3 - 1) + (i - 16 - 16) = i by omega, hbit]
      · rw [show 16 * (3 - 0) + (i - 16 - 16 - 16) = i by omega, hbit]

/-- A record whose words pass carries the identity it was loaded for. -/
theorem recIdentity_of_firstBadWord {id : W64} {r : Record} (hlen : 31 ≤ r.length) (h : firstBadWord id r = none) :
    recIdentity r = id := by
  unfold firstBadWord at h
  rw [List.find?_eq_none] at h
  have hw : ∀ i, i ≤ 3 → recWord r i = identityWord id i := by
    intro i hi
    have := h i (List.mem_range.mpr (by omega))
    simpa [wordPasses, hi] using this
  rw [recIdentity, hw 0 (by omega), hw 1 (by omega), hw 2 (by omega), hw 3 (by omega), identityWord_append]

theorem findRecord_isSome_iff (records : List Record) (id : W64) :
    (findRecord records id).isSome = true ↔ recordIndex records id < records.length := by
  unfold findRecord recordIndex
  rw [List.find?_isSome, List.findIdx_lt_length]

theorem getElem_recordIndex {records : List Record} {id : W64} (h : recordIndex records id < records.length) :
    findRecord records id = some records[recordIndex records id] ∧ recIdentity records[recordIndex records id] = id := by
  have h2 : (recIdentity records[recordIndex records id] == id) = true :=
    List.findIdx_getElem (p := fun r => recIdentity r == id) (w := h)
  refine ⟨?_, by simpa using h2⟩
  unfold findRecord recordIndex at *
  rw [List.find?_eq_some_iff_getElem]
  refine ⟨h2, _, h, rfl, fun j hj => ?_⟩
  have := List.not_of_lt_findIdx hj
  simpa using this

theorem map_recIdentity_set {records : List Record} {id : W64} {r : Record} (hr : recIdentity r = id)
    (h : recordIndex records id < records.length) :
    (records.set (recordIndex records id) r).map recIdentity = records.map recIdentity := by
  rw [List.map_set, hr]
  refine List.ext_getElem (by simp) fun i h1 h2 => ?_
  rw [List.getElem_set]
  split
  · next hi => subst hi; simp [(getElem_recordIndex h).2]
  · rfl

theorem libraryLaw_putRecord {l : Load} (hl : closeRefusal s.records l = none)
    (ht : t.records = putRecord s.records l.identity l.words) (hs : libraryLaw s) : libraryLaw t := by
  obtain ⟨hcount, hnodup, hpool, hlen⟩ := hs
  obtain ⟨hwords, hbad, hfull⟩ := of_closeRefusal_eq_none hl
  have hid := recIdentity_of_firstBadWord (by omega) hbad
  simp only [libraryFull, Bool.or_eq_false_iff, Bool.and_eq_false_iff, decide_eq_false_iff_not, not_le, not_lt] at hfull
  obtain ⟨hplace, hroom⟩ := hfull
  unfold libraryLaw
  rw [ht, putRecord]
  split
  · next hf =>
    have hi := (findRecord_isSome_iff _ _).mp hf
    obtain ⟨hfound, -⟩ := getElem_recordIndex hi
    refine ⟨by simpa using hcount, by rw [map_recIdentity_set hid hi]; exact hnodup, ?_, fun r hr => ?_⟩
    · have := sum_map_set recDefects s.records _ hi l.words
      simp only [poolRoom, hfound, freePool, poolUsed, Config.defectPool] at hroom
      omega
    · rcases List.mem_or_eq_of_mem_set hr with hr | rfl
      · exact hlen r hr
      · exact hwords
  · next hf =>
    have hnone : findRecord s.records l.identity = none := by simpa using hf
    have hnew : l.identity ∉ s.records.map recIdentity := by
      rw [findRecord, List.find?_eq_none] at hnone
      simpa using hnone
    refine ⟨?_, ?_, ?_, fun r hr => ?_⟩
    · rw [hnone] at hplace
      simp only [Option.isNone_none, Bool.true_eq_false, false_or, Config.maxRecords] at hplace
      simpa using hplace
    · rw [List.map_append, List.map_singleton, hid, List.nodup_append]
      exact ⟨hnodup, List.nodup_singleton _, fun a ha b hb => by
        rw [List.mem_singleton.mp hb]; exact fun e => hnew (e ▸ ha)⟩
    · simp only [poolRoom, hnone, freePool, poolUsed, Config.defectPool] at hroom
      simp only [List.map_append, List.map_singleton, List.sum_append, List.sum_singleton]
      omega
    · rcases List.mem_append.mp hr with hr | hr
      · exact hlen r hr
      · exact List.mem_singleton.mp hr ▸ hwords

theorem libraryLaw_eraseIdx {i : Nat} (ht : t.records = s.records.eraseIdx i) (hs : libraryLaw s) : libraryLaw t := by
  obtain ⟨hcount, hnodup, hpool, hlen⟩ := hs
  have hsub : (s.records.eraseIdx i).Sublist s.records := List.eraseIdx_sublist _ _
  unfold libraryLaw
  rw [ht]
  exact ⟨hsub.length_le.trans hcount, hnodup.sublist (hsub.map _), ((hsub.map _).sum_le_sum (fun _ _ => Nat.zero_le _)).trans hpool,
    fun r hr => hlen r (hsub.subset hr)⟩

theorem libraryLaw_reset : libraryLaw State.reset := ⟨by decide, by decide, by decide, fun r hr => nomatch hr⟩

theorem records_applyLibraryChange (id : W64) (s : State) : (applyLibraryChange id s).records = s.records :=
  touches_applyLibraryChange id (.refl _ s) (List.Subset.refl _) .records (by simp)

theorem records_installLoad (l : Load) (s : State) :
    (installLoad l s).records = putRecord s.records l.identity l.words := by
  unfold installLoad
  rw [records_applyLibraryChange]
  simp

/-- Only a LIB-CLOSE, a LIB-DELETE and a power reset touch the library. -/
theorem libraryLaw_act (h : Act W R ps s t) (hs : libraryLaw s) : libraryLaw t := by
  by_cases hd : Part.records ∈ ps
  · cases h <;> simp only [List.mem_cons, reduceCtorEq, List.not_mem_nil, or_self, or_false] at hd
    case install l hl hc => exact libraryLaw_putRecord hc (records_installLoad l s) hs
    case delete id hid =>
      refine libraryLaw_eraseIdx (i := recordIndex s.records id) ?_ hs
      rw [records_applyLibraryChange]
      simp
    case powerReset => exact libraryLaw_of_records (s := State.reset) rfl libraryLaw_reset
  · exact libraryLaw_of_records (h.touches .records hd) hs

end

/-- Settles O54: a step is a chain of actions (`step_keeps`), each of which keeps the three laws. -/
theorem planImageAndLibraryLawsAreKept : Obligations.PlanImageAndLibraryLawsAreKept := by
  unfold Obligations.PlanImageAndLibraryLawsAreKept
  intro s t h
  exact ⟨step_keeps False False False.elim False.elim (fun _ _ _ => planLaw_act) h,
    step_keeps False False False.elim False.elim (fun _ _ _ => imageLaw_act) h,
    step_keeps False False False.elim False.elim (fun _ _ _ => libraryLaw_act) h⟩

end Sys2Proof.Machine
end

section
/-! PROOFS. The laws of causes, settings and drift records (R138, R154, R182, R189, R190) action by action, and O56. -/

namespace Sys2Proof.Machine

section
variable {W R : Prop} {ps : List Part} {s t : State}

/-! ## Causes -/

/-- All sixteen causes. -/
def everyCause : List Cause :=
  [.linkErr, .sourceSwitch, .sourceLost, .frameLate, .frameSeq, .frameDrop, .tileNew, .tileLost, .unknownTile, .misfit,
   .pixelLimit, .levelOver, .driftRange, .senseStale, .loadAbandoned, .editReleased]

@[simp] theorem mem_everyCause (c : Cause) : c ∈ everyCause := by
  cases c <;> simp [everyCause]

theorem causeLaw_iff (s : State) : causeLaw s ↔ ∀ c, (s.causes.get c).lawful := Iff.rfl

theorem causeLaw_of_causes (h : t.causes = s.causes) (hs : causeLaw s) : causeLaw t := by
  rw [causeLaw_iff, h]; exact hs

/-- Raises keep the law of the causes. -/
theorem causeLaw_of_raised (h : Raised everyCause s.causes t.causes) (hs : causeLaw s) : causeLaw t :=
  h.keeps (P := fun a => ∀ c, (a.get c).lawful) (fun _ _ k _ ha c => lawful_set (CauseEntry.lawful_raised k) c (ha c)) hs

theorem causeLaw_restartValues (hs : causeLaw s) : causeLaw (restartValues s) := by
  have h : causeLaw (clearAllCauses (restartBlocks s)) := by
    intro c
    have : ((clearAllCauses (restartBlocks s)).causes.get c) = (s.causes.get c).cleared := by
      simp [clearAllCauses, restartBlocks, restartDrift, restartChain, restartEngine, restartFrames]
    rw [this]
    exact CauseEntry.lawful_cleared (hs c)
  exact causeLaw_of_raised (raised_carrySwitch (.self _ _) (by simp)) h

theorem CauseEntry.lawful_reset (c : Fin 16) : (CauseEntry.reset c).lawful := by
  have hlevel : causeDefaultLevel c ≤ 3 := by revert c; decide
  exact ⟨Nat.zero_le _, by simp [CauseEntry.reset], by simp [CauseEntry.reset], by simp [CauseEntry.reset], hlevel⟩

theorem causeLaw_reset : causeLaw State.reset := by
  intro c
  have : State.reset.causes.get c = CauseEntry.reset c := Table.get_tabulate _ c
  rw [this]
  exact CauseEntry.lawful_reset c

/-- Every action that touches the causes raises, but for an edit of entries, a restart and a power reset. -/
theorem causeLaw_act (h : Act W R ps s t) (hs : causeLaw s) : causeLaw t := by
  by_cases hd : Part.causes ∈ ps
  · cases h <;> simp only [List.mem_cons, reduceCtorEq, List.not_mem_nil, or_self, or_false] at hd
    case causes x hx =>
      rw [causeLaw_iff]
      intro c
      simpa using hx c (hs c)
    case restartValues => exact causeLaw_restartValues hs
    case powerReset => exact causeLaw_of_causes (s := State.reset) rfl causeLaw_reset
    case writePlan k e p he hp hne =>
      refine causeLaw_of_raised (raised_planPresence k p ?_ (by simp) (by simp) (by simp)) hs
      rw [(touches_storePlan k p (.refl _ s) (List.Subset.refl _)).causes_eq]
      exact .refl
    all_goals exact causeLaw_of_raised (by simp (maxDischargeDepth := 99)) hs
  · exact causeLaw_of_causes (h.touches .causes hd) hs

/-! ## Settings -/

theorem settingLaw_of_settings (h : t.settings = s.settings) (hs : settingLaw s) : settingLaw t := by
  intro n
  rw [State.setting, h]
  exact hs n

theorem settingLaw_set {n : SettingId} {v : Int} (hv : (settingRow n).lo ≤ v ∧ v ≤ (settingRow n).hi)
    (h : t.settings = s.settings.set n v) (hs : settingLaw s) : settingLaw t := by
  intro m
  rw [State.setting, h, Table.get_set]
  split
  · next hm => subst hm; exact hv
  · exact hs m

theorem settingLaw_reset : settingLaw State.reset := by
  intro n
  have h : State.reset.setting n = (settingRow n).default := Table.get_tabulate _ n
  rw [h]
  revert n
  decide

theorem settings_settle (s : State) : (settle s).settings = s.settings :=
  touches_settle (.refl _ s) (List.Subset.refl _) .settings (by simp)

/-- Only a WRITE-SETTING and a power reset touch the settings. -/
theorem settingLaw_act (h : Act W R ps s t) (hs : settingLaw s) : settingLaw t := by
  by_cases hd : Part.settings ∈ ps
  · cases h <;> simp only [List.mem_cons, reduceCtorEq, List.not_mem_nil, or_self, or_false] at hd
    case setting n v hn hv => exact settingLaw_set hv (by simp) hs
    case preferred v hv => exact settingLaw_set hv (by simp [settings_settle]) hs
    case powerReset => exact settingLaw_of_settings (s := State.reset) rfl settingLaw_reset
  · exact settingLaw_of_settings (h.touches .settings hd) hs

/-! ## Drift records -/

/-- What `driftLaw` says of one record (R138, R154). -/
def Drift.lawful (d : Drift) : Prop := factorsInRange d.target ∧ factorsInRange d.applied ∧ d.miss ≤ 3

theorem driftLaw_iff (s : State) : driftLaw s ↔ ∀ k, (s.drift.get k).lawful := Iff.rfl

theorem driftLaw_of_drift (h : t.drift = s.drift) (hs : driftLaw s) : driftLaw t := by
  rw [driftLaw_iff, h]; exact hs

theorem driftLaw_of_touches (h : Touches ps s t) (hd : Part.drift ∉ ps) (hs : driftLaw s) : driftLaw t :=
  driftLaw_of_drift (h .drift hd) hs

theorem driftLaw_withDriftOf {k : SlotId} {x : Drift} (hx : x.lawful) (hs : driftLaw s) :
    driftLaw (s.withDriftOf k x) := by
  intro j
  have : (s.withDriftOf k x).drift.get j = if k = j then x else s.drift.get j := by
    simp [State.withDriftOf, Table.get_set]
  rw [this]
  split
  · exact hx
  · exact hs j

theorem factorsInRange_iff (x : Rgb Nat) :
    factorsInRange x ↔ (49152 ≤ x.r ∧ x.r ≤ 98304) ∧ (49152 ≤ x.g ∧ x.g ≤ 98304) ∧ 49152 ≤ x.b ∧ x.b ≤ 98304 := by
  simp [factorsInRange, Rgb.toList]

theorem clampTarget_inRange (v : Int) : 49152 ≤ clampTarget v ∧ clampTarget v ≤ 98304 := by
  unfold clampTarget clampInt Config.driftMin Config.driftMax
  omega

theorem factorsInRange_clampTarget (t : Rgb Int) : factorsInRange (t.map clampTarget) := by
  rw [factorsInRange_iff]
  exact ⟨clampTarget_inRange _, clampTarget_inRange _, clampTarget_inRange _⟩

theorem factorsInRange_unity : factorsInRange (Rgb.all Config.unity) := by
  simp [factorsInRange_iff, Rgb.all, Config.unity]

theorem driftLaw_raise (c : Cause) (k : Option SlotId) (hs : driftLaw s) : driftLaw (raise c k s) :=
  driftLaw_of_drift (by simp [raise]) hs

theorem driftLaw_computeTargets (k : SlotId) (hs : driftLaw s) : driftLaw (computeTargets k s) := by
  have h1 : driftLaw (s.withDriftOf k { s.drift.get k with target := (slotRawTargets s k).map clampTarget }) :=
    driftLaw_withDriftOf ⟨factorsInRange_clampTarget _, (hs k).2.1, (hs k).2.2⟩ hs
  unfold computeTargets
  dsimp only
  (repeat' split)
  · exact driftLaw_raise _ _ h1
  · exact h1
  · exact hs

theorem driftLaw_initialiseDrift (k : SlotId) (hs : driftLaw s) : driftLaw (initialiseDrift k s) := by
  have h1 : driftLaw (s.withDriftOf k { s.drift.get k with reading := none, miss := 0 }) :=
    driftLaw_withDriftOf ⟨(hs k).1, (hs k).2.1, Nat.zero_le 3⟩ hs
  have happly : ∀ u, driftLaw u → driftLaw (u.withDriftOf k { u.drift.get k with applied := (u.drift.get k).target }) :=
    fun u hu => driftLaw_withDriftOf ⟨(hu k).1, (hu k).1, (hu k).2.2⟩ hu
  unfold initialiseDrift
  dsimp only
  refine happly _ ?_
  split
  · exact driftLaw_computeTargets k h1
  · exact driftLaw_withDriftOf ⟨factorsInRange_unity, (h1 k).2.1, (h1 k).2.2⟩ h1

theorem driftLaw_storeReading (k : SlotId) (temperature : Int) (hours : Nat) (hs : driftLaw s) :
    driftLaw (storeReading k temperature hours s) := by
  unfold storeReading
  refine driftLaw_computeTargets k ?_
  split
  · have h1 := driftLaw_raise .driftRange (some k) hs
    exact driftLaw_withDriftOf ⟨(h1 k).1, (h1 k).2.1, Nat.zero_le 3⟩ h1
  · exact driftLaw_withDriftOf ⟨(hs k).1, (hs k).2.1, Nat.zero_le 3⟩ hs

theorem driftLaw_recordMiss (k : SlotId) (hs : driftLaw s) : driftLaw (recordMiss k s) :=
  driftLaw_raise _ _ (driftLaw_withDriftOf ⟨(hs k).1, (hs k).2.1, Nat.min_le_left _ _⟩ hs)

/-- A slewed channel lies between where it was and its target. -/
theorem slewChannel_inRange {lo hi step a b : Nat} (ha : lo ≤ a ∧ a ≤ hi) (hb : lo ≤ b ∧ b ≤ hi) :
    lo ≤ slewChannel step a b ∧ slewChannel step a b ≤ hi := by
  unfold slewChannel
  (repeat' split) <;> omega

theorem Drift.lawful_slewed (step : Nat) {d : Drift} (h : d.lawful) : (d.slewed step).lawful := by
  obtain ⟨ht, ha, hm⟩ := h
  refine ⟨ht, ?_, hm⟩
  rw [factorsInRange_iff] at ht ha ⊢
  exact ⟨slewChannel_inRange ha.1 ht.1, slewChannel_inRange ha.2.1 ht.2.1, slewChannel_inRange ha.2.2 ht.2.2⟩

theorem driftLaw_slewAll (hs : driftLaw s) : driftLaw (slewAll s) :=
  forSlots_keeps (P := driftLaw) (fun k u hu => by
    split
    · exact driftLaw_withDriftOf (Drift.lawful_slewed _ (hu k)) hu
    · exact hu) hs

theorem driftLaw_startScan (hs : driftLaw s) : driftLaw (startScan s) := by
  have h : ∀ u, driftLaw u → driftLaw (enterScanning (formLevel (slewAll u))) := fun u hu =>
    driftLaw_of_touches (touches_enterScanning (touches_formLevel (.refl [.engine, .level, .causes] _) (by simp))
      (by simp)) (by simp) (driftLaw_slewAll hu)
  unfold startScan
  split
  · exact h _ (driftLaw_of_drift (by simp [swap]) hs)
  · exact h _ hs

theorem driftLaw_afterScan (hs : driftLaw s) : driftLaw (afterScan s) := by
  unfold afterScan
  dsimp only
  split
  · exact driftLaw_startScan (driftLaw_of_drift (by simp [abortScan]) hs)
  · exact driftLaw_of_drift (by simp [abortScan]) hs

theorem driftLaw_movePresence (k : SlotId) (p : Presence) (hs : driftLaw s) : driftLaw (movePresence k p s) :=
  driftLaw_computeTargets k (driftLaw_of_touches (touches_raiseEntered p k (touches_withTile k _
    (.refl [.tiles, .causes] s) (by simp)) (by simp)) (by simp) hs)

theorem driftLaw_reevaluate (k : SlotId) (hs : driftLaw s) : driftLaw (reevaluate k s) := by
  unfold reevaluate
  dsimp only
  (repeat' split)
  · exact hs
  · exact driftLaw_movePresence k _ hs
  · exact hs

theorem driftLaw_applyLibraryChange (id : W64) (hs : driftLaw s) : driftLaw (applyLibraryChange id s) :=
  forSlots_keeps (P := driftLaw) (fun k u hu => by
    unfold rejudge
    (repeat' split)
    · exact driftLaw_computeTargets k hu
    · exact driftLaw_movePresence k _ hu
    · exact hu
    · exact driftLaw_movePresence k _ hu
    · exact hu
    · exact hu) hs

theorem driftLaw_loseTile (k : SlotId) (hs : driftLaw s) : driftLaw (loseTile k s) :=
  driftLaw_of_touches (touches_loseTile k (.refl _ s) (List.Subset.refl _)) (by simp) hs

theorem driftLaw_dropQuery (hs : driftLaw s) : driftLaw (dropQuery s) := driftLaw_of_drift (by simp [dropQuery]) hs

theorem driftLaw_acceptReading (k : SlotId) (short temperature : W16) (hours : BitVec 24) (hs : driftLaw s) :
    driftLaw (acceptReading k short temperature hours s) := by
  unfold acceptReading
  (repeat' split)
  · exact driftLaw_storeReading _ _ _ hs
  · exact driftLaw_loseTile k hs
  · exact driftLaw_loseTile k hs

theorem driftLaw_senseTimedOut (k : SlotId) (hs : driftLaw s) : driftLaw (senseTimedOut k s) := by
  have h1 := driftLaw_recordMiss k hs
  unfold senseTimedOut
  dsimp only
  split
  · exact driftLaw_loseTile k h1
  · exact h1

theorem driftLaw_identify (k : SlotId) (f : TileFacts) (hs : driftLaw s) : driftLaw (identify k f s) :=
  driftLaw_initialiseDrift k (driftLaw_of_touches (touches_raise _ _ (touches_raiseEntered _ k (touches_withTile k _
    (.refl [.tiles, .causes] s) (by simp)) (by simp)) (by simp)) (by simp) hs)

theorem driftLaw_planPresence (k : SlotId) (p : Plan) (hs : driftLaw s) : driftLaw (planPresence k p s) := by
  have hempty : driftLaw (becomeEmpty k s) :=
    driftLaw_of_touches (touches_becomeEmpty k (.refl _ s) (List.Subset.refl _)) (by simp) hs
  unfold planPresence
  (repeat' split)
  · exact hs
  · exact driftLaw_of_drift (by simp [becomeAbsent, State.withTile]) hs
  · exact hempty
  · exact hs
  · exact hempty
  · exact driftLaw_reevaluate k hs

theorem Drift.lawful_reset : Drift.reset.lawful := ⟨factorsInRange_unity, factorsInRange_unity, Nat.zero_le 3⟩

theorem driftLaw_of_reset (h : t.drift = Table.replicate 16 Drift.reset) : driftLaw t := by
  intro k
  rw [h, Table.get_replicate]
  exact Drift.lawful_reset

theorem drift_carrySwitch (s : State) : (carrySwitch s).drift = s.drift :=
  touches_carrySwitch (.refl _ s) (List.Subset.refl _) .drift (by simp)

/-- The drift records, action by action. -/
theorem driftLaw_act (h : Act W R ps s t) (hs : driftLaw s) : driftLaw t := by
  by_cases hd : Part.drift ∈ ps
  · cases h <;> simp only [List.mem_cons, reduceCtorEq, List.not_mem_nil, or_self, or_false] at hd
    case readyShown => exact driftLaw_startScan (driftLaw_of_drift (by simp [drift_carrySwitch]) hs)
    case startScan => exact driftLaw_startScan hs
    case blankRestart => exact driftLaw_startScan (driftLaw_of_drift (by simp [abortScan]) hs)
    case afterScan => exact driftLaw_afterScan hs
    case identified q f hq hk => exact driftLaw_identify _ f (driftLaw_dropQuery hs)
    case sensed q short temperature hours hq hk => exact driftLaw_acceptReading _ _ _ _ (driftLaw_dropQuery hs)
    case senseTimedOut q hq hk => exact driftLaw_senseTimedOut _ (driftLaw_dropQuery hs)
    case computeTargets k => exact driftLaw_computeTargets k hs
    case writePlan k e p he hp hne =>
      exact driftLaw_planPresence k p
        (driftLaw_of_touches (touches_storePlan k p (.refl _ s) (List.Subset.refl _)) (by simp) hs)
    case install l hl hc => exact driftLaw_applyLibraryChange _ (driftLaw_of_drift (by simp) hs)
    case delete id hid => exact driftLaw_applyLibraryChange _ (driftLaw_of_drift (by simp) hs)
    case restartValues =>
      refine driftLaw_of_reset ?_
      simp [restartValues, drift_carrySwitch, clearAllCauses, restartBlocks, restartDrift]
    case powerReset => exact driftLaw_of_reset rfl
  · exact driftLaw_of_drift (h.touches .drift hd) hs

end

/-- Settles O56: a step is a chain of actions (`step_keeps`), each of which keeps the three laws. -/
theorem causeSettingAndDriftLawsAreKept : Obligations.CauseSettingAndDriftLawsAreKept := by
  unfold Obligations.CauseSettingAndDriftLawsAreKept
  intro s t h
  exact ⟨step_keeps False False False.elim False.elim (fun _ _ _ => causeLaw_act) h,
    step_keeps False False False.elim False.elim (fun _ _ _ => settingLaw_act) h,
    step_keeps False False False.elim False.elim (fun _ _ _ => driftLaw_act) h⟩

end Sys2Proof.Machine
end

section
/-! PROOFS. The laws of waiting requests, edit flag and open load (R83, R174, R186) action by action, and O55. -/

namespace Sys2Proof.Machine

section
variable {R : Prop} {ps : List Part} {s t : State}

/-! ## Ports that have not entered DOWN -/

/-- No port is DOWN in `t` that was not in `s`. -/
def noneFallen (s t : State) : Prop := ∀ p, (t.up p).state = .down → (s.up p).state = .down

theorem noneFallen_of_up (h : ∀ p, t.up p = s.up p) : noneFallen s t := fun p hp => by rwa [h p] at hp

theorem noneFallen_withUp {p : Up} {x : Upstream} (hx : x.state = .down → (s.up p).state = .down) :
    noneFallen s (s.withUp p x) := by
  intro q hq
  rw [State.withUp_up] at hq
  split at hq
  · next h => subst h; exact hx hq
  · exact hq

theorem noneFallen_of_touches (h : Touches ps s t) (ha : Part.up .ua ∉ ps) (hb : Part.up .ub ∉ ps) : noneFallen s t :=
  noneFallen_of_up fun p => by
    cases p with
    | ua => exact h (.up .ua) ha
    | ub => exact h (.up .ub) hb

theorem noneFallen_settle {x y : Upstream} (hx : s.ua.Follows x) (hy : s.ub.Follows y) :
    noneFallen s (settle ((s.withUa x).withUb y)) := by
  have h : ∀ p, (settle ((s.withUa x).withUb y)).up p = ((s.withUa x).withUb y).up p := fun p =>
    touches_settle (.refl _ _) (List.Subset.refl _) (.up p) (by simp)
  intro p hp
  rw [h] at hp
  cases p with
  | ua => exact hx.down hp
  | ub => exact hy.down hp

/-- An action other than a port's entry to DOWN and a power reset takes no port into DOWN. -/
theorem noneFallen_act {W : Prop} (h : Act W R ps s t) (hfall : Part.flags ∉ ps ∨ Part.waiting ∉ ps ∨ Part.load ∉ ps) :
    noneFallen s t := by
  by_cases hd : Part.up .ua ∈ ps ∨ Part.up .ub ∈ ps
  · cases h <;> simp only [List.mem_cons, reduceCtorEq, List.not_mem_nil, or_self, or_false, false_or] at hd
    case port p x hx hstate => exact noneFallen_withUp hx.down
    case settle x y hx hy => exact noneFallen_settle hx hy
    case enqueue p c hp hroom hw => exact noneFallen_withUp id
    case dequeue p => exact noneFallen_withUp id
    all_goals simp [requestParts] at hfall
  · rw [not_or] at hd
    exact noneFallen_of_touches h.touches hd.1 hd.2

/-! ## A port's entry to DOWN -/

theorem enterDown_up_other {p q : Up} (h : q ≠ p) (s : State) : (enterDown p s).up q = s.up q :=
  touches_enterDown p (.refl _ s) (List.Subset.refl _) (.up q) (by simp [h])

/-- What stands between the record of a port that has entered DOWN and the settling of the selector. -/
theorem enterDown_of_not_down {p : Up} (h : (s.up p).state ≠ .down) :
    enterDown p s = settle (abandonLoadOf p (releaseEditFlag p (dropWaiting p (s.withUp p (s.up p).fallen)))) := by
  rw [enterDown, if_neg h]

theorem enterDown_up_self {p : Up} (h : (s.up p).state ≠ .down) : (enterDown p s).up p = (s.up p).fallen := by
  rw [enterDown_of_not_down h]
  have := touches_settle (touches_abandonLoadOf p (touches_releaseEditFlag p (touches_dropWaiting p (.refl
    [.selector, .incoming, .receiver, .load, .flags, .holder, .restart, .waiting, .causes] (s.withUp p (s.up p).fallen))
      (by simp)) (by simp)) (by simp)) (by simp) (.up p) (by simp)
  exact this.trans (State.withUp_up_self _ _ _)

theorem enterDown_waiting {p : Up} (h : (s.up p).state ≠ .down) :
    (enterDown p s).waiting = s.waiting.filter fun i => decide (Instr.requestPort i ≠ some p) := by
  rw [enterDown_of_not_down h]
  have := touches_settle (touches_abandonLoadOf p (touches_releaseEditFlag p (.refl
    [.selector, .incoming, .receiver, .load, .flags, .holder, .causes] (dropWaiting p (s.withUp p (s.up p).fallen)))
      (by simp)) (by simp)) (by simp) .waiting (by simp)
  exact this.trans (by simp [dropWaiting])

theorem enterDown_restart {p : Up} (h : (s.up p).state ≠ .down) :
    (enterDown p s).restart = s.restart.map fun w => if w.port = p then { w with replyLost := true } else w := by
  rw [enterDown_of_not_down h]
  have := touches_settle (touches_abandonLoadOf p (touches_releaseEditFlag p (.refl
    [.selector, .incoming, .receiver, .load, .flags, .holder, .causes] (dropWaiting p (s.withUp p (s.up p).fallen)))
      (by simp)) (by simp)) (by simp) .restart (by simp)
  exact this.trans (by simp [dropWaiting])

/-- R178: the edit flag after a port's entry to DOWN. -/
theorem enterDown_flag {p : Up} (h : (s.up p).state ≠ .down) :
    (s.holder = some p → (enterDown p s).flags = s.flags.set 0 false ∧ (enterDown p s).holder = none) ∧
    (s.holder ≠ some p → (enterDown p s).flags = s.flags ∧ (enterDown p s).holder = s.holder) := by
  rw [enterDown_of_not_down h]
  have ht := touches_settle (touches_abandonLoadOf p (.refl
    [.selector, .incoming, .receiver, .load, .causes]
    (releaseEditFlag p (dropWaiting p (s.withUp p (s.up p).fallen)))) (by simp)) (by simp)
  have hflags := ht .flags (by simp)
  have hholder := ht .holder (by simp)
  simp only [Part.same] at hflags hholder
  rw [hflags, hholder]
  have hdrop : (dropWaiting p (s.withUp p (s.up p).fallen)).flags = s.flags ∧
      (dropWaiting p (s.withUp p (s.up p).fallen)).holder = s.holder := by simp [dropWaiting]
  constructor
  · intro hh
    rw [releaseEditFlag, if_pos (hdrop.2.trans hh)]
    simp [raise, dropEditFlag, hdrop.1]
  · intro hh
    rw [releaseEditFlag, if_neg (by rw [hdrop.2]; exact hh)]
    exact hdrop

/-- R93: the open load after a port's entry to DOWN. -/
theorem enterDown_load {p : Up} (h : (s.up p).state ≠ .down) :
    (∀ l, s.load = some l → l.owner = p → (enterDown p s).load = none) ∧
    ((∀ l, s.load = some l → l.owner ≠ p) → (enterDown p s).load = s.load) := by
  rw [enterDown_of_not_down h]
  have ht := touches_settle (.refl [.selector, .incoming, .receiver, .causes]
    (abandonLoadOf p (releaseEditFlag p (dropWaiting p (s.withUp p (s.up p).fallen))))) (by simp) .load (by simp)
  have h1 : (releaseEditFlag p (dropWaiting p (s.withUp p (s.up p).fallen))).load = s.load := by
    have := touches_releaseEditFlag p (touches_dropWaiting p (touches_withUp p (s.up p).fallen (.refl
      [.up p, .flags, .holder, .restart, .waiting, .causes] s) (by simp)) (by simp)) (by simp) .load (by simp)
    exact this
  simp only [Part.same] at ht
  rw [ht]
  constructor
  · intro l hl ho
    rw [abandonLoadOf, h1, hl]
    simp [ho, raise]
  · intro hno
    rw [abandonLoadOf, h1]
    split
    · next l hl => rw [if_neg (hno l hl)]; exact h1
    · exact h1

/-! ## The laws -/

theorem waitingLaw_of_noneFallen (hw : t.waiting ⊆ s.waiting) (hn : noneFallen s t) (hs : waitingLaw s) :
    waitingLaw t := by
  intro i hi
  obtain ⟨p, hp, hd⟩ := hs i (hw hi)
  exact ⟨p, hp, fun h => hd (hn p h)⟩

theorem waitingLaw_of_waiting (h : t.waiting = []) : waitingLaw t := by
  intro i hi
  rw [h] at hi
  exact nomatch hi

theorem waitingLaw_enterDown {p : Up} (h : (s.up p).state ≠ .down) (hs : waitingLaw s) : waitingLaw (enterDown p s) := by
  intro i hi
  rw [enterDown_waiting h, List.mem_filter, decide_eq_true_eq] at hi
  obtain ⟨q, hq, hd⟩ := hs i hi.1
  have hne : q ≠ p := fun e => hi.2 (e ▸ hq)
  exact ⟨q, hq, by rwa [enterDown_up_other hne]⟩

/-- The waiting requests, action by action. -/
theorem waitingLaw_act (h : Act True R ps s t) (hs : waitingLaw s) : waitingLaw t := by
  by_cases hd : Part.waiting ∈ ps
  · cases h <;> simp only [List.mem_cons, reduceCtorEq, List.not_mem_nil, or_self, or_false] at hd
    case fall p hp => exact waitingLaw_enterDown hp hs
    case hold i p hi hp hroom hw =>
      intro j hj
      simp only [State.withWaiting_fields, List.mem_append, List.mem_singleton] at hj
      simp only [State.withWaiting_up]
      rcases hj with hj | rfl
      · exact hs j hj
      · exact ⟨p, hi, hp trivial⟩
    case endWait => exact waitingLaw_of_waiting (by simp [endWait])
    case powerReset => exact waitingLaw_of_waiting rfl
  · have hw := h.touches .waiting hd
    exact waitingLaw_of_noneFallen (by rw [hw]; exact List.Subset.refl _) (noneFallen_act h (.inr (.inl hd))) hs

theorem editFlagLaw_of_noneFallen (hf : t.flags.get 0 = s.flags.get 0) (hh : t.holder = s.holder) (hn : noneFallen s t)
    (hs : editFlagLaw s) : editFlagLaw t := by
  obtain ⟨h1, h2⟩ := hs
  exact ⟨by rw [hf, hh, h1], fun p hp hd => h2 p (hh ▸ hp) (hn p hd)⟩

theorem editFlagLaw_of_clear (hf : t.flags.get 0 = false) (hh : t.holder = none) : editFlagLaw t :=
  ⟨by rw [hf, hh]; rfl, fun p hp => by rw [hh] at hp; exact nomatch hp⟩

theorem editFlagLaw_enterDown {p : Up} (h : (s.up p).state ≠ .down) (hs : editFlagLaw s) : editFlagLaw (enterDown p s) := by
  obtain ⟨hmine, hother⟩ := enterDown_flag h
  by_cases hh : s.holder = some p
  · obtain ⟨hf, hn⟩ := hmine hh
    exact editFlagLaw_of_clear (by rw [hf, Table.get_set_self]) hn
  · obtain ⟨hf, hn⟩ := hother hh
    refine ⟨by rw [hf, hn, hs.1], fun q hq => ?_⟩
    rw [hn] at hq
    have hne : q ≠ p := fun e => hh (e ▸ hq)
    rw [enterDown_up_other hne]
    exact hs.2 q hq

/-- The edit flag, action by action. -/
theorem editFlagLaw_act (h : Act True R ps s t) (hs : editFlagLaw s) : editFlagLaw t := by
  by_cases hd : Part.flags ∈ ps
  · cases h <;> simp only [List.mem_cons, reduceCtorEq, List.not_mem_nil, or_self, or_false] at hd
    case fall p hp => exact editFlagLaw_enterDown hp hs
    case flag k v hk =>
      exact editFlagLaw_of_noneFallen (by simp [Table.get_set, hk]) (by simp) (noneFallen_of_up (by simp)) hs
    case takeFlag p hp =>
      refine ⟨by simp [takeEditFlag], fun q hq => ?_⟩
      simp only [takeEditFlag, State.withHolder_fields, Option.some.injEq] at hq
      subst hq
      simpa [takeEditFlag] using hp trivial
    case dropFlag => exact editFlagLaw_of_clear (by simp [dropEditFlag]) (by simp [dropEditFlag])
    case powerReset => exact editFlagLaw_of_clear rfl rfl
  · have hf : t.flags = s.flags := h.touches .flags hd
    have hh : t.holder = s.holder := by
      refine h.touches .holder fun hm => hd ?_
      cases h <;> simp_all [requestParts]
    exact editFlagLaw_of_noneFallen (by rw [hf]) hh (noneFallen_act h (.inl hd)) hs

theorem loadLaw_of_noneFallen (hl : t.load = s.load) (hn : noneFallen s t) (hs : loadLaw s) : loadLaw t := by
  intro l h
  obtain ⟨h1, h2⟩ := hs l (hl ▸ h)
  exact ⟨fun hd => h1 (hn _ hd), h2⟩

theorem loadLaw_of_none (h : t.load = none) : loadLaw t := by
  intro l hl
  rw [h] at hl
  exact nomatch hl

theorem loadLaw_enterDown {p : Up} (h : (s.up p).state ≠ .down) (hs : loadLaw s) : loadLaw (enterDown p s) := by
  obtain ⟨hmine, hother⟩ := enterDown_load h
  by_cases hl : ∃ l, s.load = some l ∧ l.owner = p
  · obtain ⟨l, hl, ho⟩ := hl
    exact loadLaw_of_none (hmine l hl ho)
  · have hno : ∀ l, s.load = some l → l.owner ≠ p := fun l h1 h2 => hl ⟨l, h1, h2⟩
    intro l h1
    rw [hother hno] at h1
    rw [enterDown_up_other (hno l h1)]
    exact hs l h1

/-- The open load, action by action. -/
theorem loadLaw_act (h : Act True R ps s t) (hs : loadLaw s) : loadLaw t := by
  by_cases hd : Part.load ∈ ps
  · cases h <;> simp only [List.mem_cons, reduceCtorEq, List.not_mem_nil, or_self, or_false] at hd
    case fall p hp => exact loadLaw_enterDown hp hs
    case load x hx => exact hx trivial hs
    case install l hl hc =>
      refine loadLaw_of_none ?_
      have := touches_applyLibraryChange l.identity (.refl [.tiles, .drift, .causes]
        ((s.withLoad none).withRecords (putRecord s.records l.identity l.words))) (by simp) .load (by simp)
      exact this.trans (by simp)
    case restartValues =>
      refine loadLaw_of_none ?_
      have := touches_carrySwitch (touches_clearAllCauses (.refl [.selector, .causes] (restartBlocks s)) (by simp))
        (by simp) .load (by simp)
      exact this.trans (by simp [restartBlocks])
    case powerReset => exact loadLaw_of_none rfl
  · exact loadLaw_of_noneFallen (h.touches .load hd) (noneFallen_act h (.inr (.inr hd))) hs

end

/-- Settles O55: a step is a chain of actions (`step_keeps`), each of which keeps the three laws while the waiting requests
wait at ports that are not DOWN. -/
theorem ownershipLawsAreKept : Obligations.OwnershipLawsAreKept := by
  unfold Obligations.OwnershipLawsAreKept
  intro s t h hw
  exact ⟨step_keeps True False (fun _ => hw) False.elim (fun _ _ _ => waitingLaw_act) h hw,
    step_keeps True False (fun _ => hw) False.elim (fun _ _ _ => editFlagLaw_act) h,
    step_keeps True False (fun _ => hw) False.elim (fun _ _ _ => loadLaw_act) h⟩

end Sys2Proof.Machine
end

section
/-! PROOFS. The laws of slots, queries and matches (R60 to R62, R67, R68, R148) action by action, and O57. First what the
operations on slots do to the slot table and the query unit. -/

namespace Sys2Proof.Machine

/-! ## Sweeps over the slots -/

/-- A sweep over the slots establishes `Post` of each slot, if the operation of a slot takes its `Pre` to its `Post` and keeps
both of every other slot. -/
theorem forSlots_each {f : SlotId → State → State} {Pre Post : SlotId → State → Prop}
    (hstep : ∀ k u, Pre k u → Post k (f k u)) (hpre : ∀ j k u, j ≠ k → Pre k u → Pre k (f j u))
    (hpost : ∀ j k u, j ≠ k → Post k u → Post k (f j u)) {s : State} (h : ∀ k, Pre k s) (k : SlotId) :
    Post k (forSlots f s) := by
  suffices H : ∀ (l : List SlotId) (u : State), l.Nodup → (∀ k ∈ l, Pre k u) → (∀ k, k ∉ l → Post k u) →
      ∀ k, Post k (l.foldl (fun acc k => f k acc) u) from
    H allSlots s (by decide) (fun k _ => h k) (fun k hk => absurd (mem_allSlots k) hk) k
  intro l
  induction l with
  | nil => exact fun u _ _ hout k => hout k List.not_mem_nil
  | cons j l ih =>
    intro u hnd hin hout
    obtain ⟨hj, hnd⟩ := List.nodup_cons.mp hnd
    refine ih (f j u) hnd (fun k hk => ?_) (fun k hk => ?_)
    · exact hpre j k u (fun e => hj (e ▸ hk)) (hin k (List.mem_cons_of_mem j hk))
    · by_cases hkj : k = j
      · subst hkj
        exact hstep k u (hin k List.mem_cons_self)
      · exact hpost j k u (Ne.symm hkj) (hout k fun hm => (List.mem_cons.mp hm).elim hkj hk)

/-! ## The slot table and the query unit after each operation -/

theorem State.tile_withTile (s : State) (k j : SlotId) (x : Tile) :
    (s.withTile k x).tile j = if k = j then x else s.tile j := by
  simp only [State.tile, State.withTile, State.withTiles_fields, Table.get_set]

/-- The slot table read from the table of another state. -/
theorem State.tile_of_tiles {s t : State} (h : t.tiles = s.tiles) (k : SlotId) : t.tile k = s.tile k := by
  rw [State.tile, State.tile, h]

theorem withdrawQuery_eq (kind : QueryKind) (k : SlotId) (s : State) :
    withdrawQuery kind k s = s.withQuery { s.query with
      outstanding := s.query.outstanding.filter fun q => decide ¬ (q.kind = kind ∧ q.slot = k) } := by
  unfold withdrawQuery
  cases hq : s.query.outstanding with
  | none =>
    have hkeep : { s.query with outstanding := none } = s.query := by rw [← hq]
    rw [Option.filter_none, hkeep]
    rfl
  | some q =>
    dsimp only
    split
    · next hc => simp [Option.filter, hc]
    · next hc =>
      have hkeep : (some q).filter (fun q => decide ¬ (q.kind = kind ∧ q.slot = k)) = some q := by
        simp only [Option.filter, decide_eq_true_eq]
        rw [if_pos hc]
      rw [hkeep, ← hq]
      rfl

@[simp] theorem loseIdentity_tiles (k : SlotId) (s : State) :
    (loseIdentity k s).tiles = s.tiles.set k ⟨.absent, none, some (.instant s.clock)⟩ := by
  simp [loseIdentity, withdrawQuery_eq, leaveSenseList, State.withTile]

@[simp] theorem loseIdentity_query (k : SlotId) (s : State) :
    (loseIdentity k s).query = { s.query with
      senseList := s.query.senseList.filter fun j => decide (j ≠ k)
      outstanding := s.query.outstanding.filter fun q => decide ¬ (q.kind = .sense ∧ q.slot = k) } := by
  simp [loseIdentity, withdrawQuery_eq, leaveSenseList, State.withTile]

@[simp] theorem loseTile_tiles (k : SlotId) (s : State) :
    (loseTile k s).tiles = s.tiles.set k ⟨.absent, none, some (.instant s.clock)⟩ := by
  simp [loseTile, raise]

@[simp] theorem loseTile_query (k : SlotId) (s : State) : (loseTile k s).query = (loseIdentity k s).query := by
  simp [loseTile, raise]

@[simp] theorem becomeEmpty_tiles (k : SlotId) (s : State) :
    (becomeEmpty k s).tiles = s.tiles.set k ⟨.empty, none, none⟩ := by
  simp [becomeEmpty, withdrawQuery_eq, leaveSenseList, State.withTile]

/-- Both kinds of query for a slot that becomes EMPTY are withdrawn. -/
@[simp] theorem becomeEmpty_query (k : SlotId) (s : State) :
    (becomeEmpty k s).query = { s.query with
      senseList := s.query.senseList.filter fun j => decide (j ≠ k)
      outstanding := s.query.outstanding.filter fun q => decide (q.slot ≠ k) } := by
  have h : ∀ o : Option Query, (o.filter fun q => decide ¬ (q.kind = .sense ∧ q.slot = k)).filter
      (fun q => decide ¬ (q.kind = .probe ∧ q.slot = k)) = o.filter fun q => decide (q.slot ≠ k) := by
    intro o
    cases o with
    | none => rfl
    | some q =>
      obtain ⟨kind, slot, tag, phase⟩ := q
      cases kind <;> by_cases hs : slot = k <;> simp [Option.filter, hs]
  simp only [becomeEmpty, withdrawQuery_eq, leaveSenseList, State.withTile, State.withQuery_fields,
    State.withTiles_fields, h]

@[simp] theorem computeTargets_tiles (k : SlotId) (s : State) : (computeTargets k s).tiles = s.tiles :=
  touches_computeTargets k (.refl _ s) (List.Subset.refl _) .tiles (by simp)

@[simp] theorem movePresence_tiles (k : SlotId) (p : Presence) (s : State) :
    (movePresence k p s).tiles = s.tiles.set k { s.tile k with presence := p } := by
  rw [movePresence, computeTargets_tiles,
    show (raiseEntered p k _).tiles = _ from
      touches_raiseEntered p k (.refl _ _) (List.Subset.refl _) .tiles (by simp)]
  simp [State.withTile]

@[simp] theorem initialiseDrift_tiles (k : SlotId) (s : State) : (initialiseDrift k s).tiles = s.tiles :=
  touches_initialiseDrift k (.refl _ s) (List.Subset.refl _) .tiles (by simp)

@[simp] theorem identify_tiles (k : SlotId) (f : TileFacts) (s : State) :
    (identify k f s).tiles = s.tiles.set k ⟨identifyAs (s.plans.get k) s.records f, some f, none⟩ := by
  have h := touches_raise .tileNew (some k) (touches_raiseEntered (identifyAs (s.plans.get k) s.records f) k
    (.refl [.causes] (s.withTile k ⟨identifyAs (s.plans.get k) s.records f, some f, none⟩)) (by simp)) (by simp) .tiles
    (by simp)
  simp only [identify, initialiseDrift_tiles]
  exact h.trans (by simp [State.withTile])

theorem identifyAs_identified (p : Plan) (records : List Record) (f : TileFacts) :
    (identifyAs p records f).identified = true := by
  unfold identifyAs
  (repeat' split) <;> rfl

/-- Identification gives MATCHED only to a tile whose record the library holds. -/
theorem libraryMatches_of_identifyAs {p : Plan} {records : List Record} {f : TileFacts}
    (h : identifyAs p records f = .matched) : libraryMatches records f = true := by
  unfold identifyAs at h
  split at h
  · exact nomatch h
  · split at h
    · assumption
    · exact nomatch h

theorem Presence.not_empty_of_identified {p : Presence} (h : p.identified = true) : p ≠ .empty := by
  rintro rfl; exact nomatch h

theorem Presence.not_absent_of_identified {p : Presence} (h : p.identified = true) : p ≠ .absent := by
  rintro rfl; exact nomatch h

section
variable {W R : Prop} {ps : List Part} {s t : State}

/-! ## Slots -/

/-- What `slotLaw` says of one slot, under its plan. -/
def Tile.lawful (p : Plan) (x : Tile) : Prop :=
  (x.presence = .empty ↔ p = .none) ∧ x.facts.isSome = x.presence.identified ∧
  (x.due.isSome = true ↔ x.presence = .absent)

/-- What `slotLaw` says of an outstanding query, by the slot table. -/
def Query.lawful (s : State) (q : Query) : Prop :=
  (q.kind = .probe → (s.tile q.slot).presence = .absent) ∧
  (q.kind = .sense → (s.tile q.slot).presence.identified = true)

theorem slotLaw_iff (s : State) :
    slotLaw s ↔ (∀ k, (s.tile k).lawful (s.plans.get k)) ∧ (∀ q, s.query.outstanding = some q → q.lawful s) ∧
      (∀ k ∈ s.query.senseList, (s.tile k).presence.identified = true) ∧ s.query.senseList.Nodup := by
  have h : ∀ q : Query, (match q.kind with
      | .probe => (s.tile q.slot).presence = .absent
      | .sense => (s.tile q.slot).presence.identified = true) ↔ q.lawful s := by
    intro q
    unfold Query.lawful
    cases q.kind <;> simp
  unfold slotLaw
  refine and_congr Iff.rfl (and_congr (forall_congr' fun q => imp_congr_right fun _ => ?_) Iff.rfl)
  exact h q

theorem slotLaw_of_same (htiles : t.tiles = s.tiles) (hplans : t.plans = s.plans) (hquery : t.query = s.query)
    (hs : slotLaw s) : slotLaw t := by
  unfold slotLaw State.tile at *
  rw [htiles, hplans, hquery]
  exact hs

/-- A query for another slot stays lawful when a slot's entry is replaced. -/
theorem Query.lawful_set {q : Query} {k : SlotId} {x : Tile} (ht : t.tiles = s.tiles.set k x) (hk : q.slot ≠ k)
    (h : q.lawful s) : q.lawful t := by
  have : t.tile q.slot = s.tile q.slot := by
    rw [State.tile, ht, Table.get_set_of_ne _ _ (Ne.symm hk)]
    rfl
  unfold Query.lawful
  rw [this]
  exact h

/-- One slot's entry replaced and the query unit freed of what no longer fits it. -/
theorem slotLaw_set {k : SlotId} {x : Tile} (htiles : t.tiles = s.tiles.set k x)
    (hx : x.lawful (t.plans.get k)) (hplans : ∀ j, j ≠ k → t.plans.get j = s.plans.get j)
    (hq : ∀ q, t.query.outstanding = some q → s.query.outstanding = some q ∧ (q.slot = k → q.lawful t))
    (hl : t.query.senseList.Sublist s.query.senseList) (hlk : k ∈ t.query.senseList → x.presence.identified = true)
    (hs : slotLaw s) : slotLaw t := by
  obtain ⟨h1, h2, h3, h4⟩ := (slotLaw_iff s).mp hs
  have htile : ∀ j, t.tile j = if k = j then x else s.tile j := fun j => by
    rw [State.tile, htiles, Table.get_set]
    rfl
  refine (slotLaw_iff t).mpr ⟨fun j => ?_, fun q h => ?_, fun j hj => ?_, h4.sublist hl⟩
  · rw [htile]
    split
    · next hj => exact hj ▸ hx
    · next hj => rw [hplans j (Ne.symm hj)]; exact h1 j
  · obtain ⟨ho, hk⟩ := hq q h
    by_cases hqk : q.slot = k
    · exact hk hqk
    · exact Query.lawful_set htiles hqk (h2 q ho)
  · rw [htile]
    split
    · next hk => exact hlk (hk ▸ hj)
    · exact h3 j (hl.subset hj)

theorem mem_filter_ne {k j : SlotId} {l : List SlotId} (h : j ∈ l.filter fun i => decide (i ≠ k)) : j ≠ k := by
  simpa using (List.mem_filter.mp h).2

/-- A slot that loses its identity. -/
theorem slotLaw_lost {k : SlotId} (hk : (s.tile k).presence.identified = true)
    (htiles : t.tiles = (loseIdentity k s).tiles) (hquery : t.query = (loseIdentity k s).query) (hplans : t.plans = s.plans)
    (hs : slotLaw s) : slotLaw t := by
  obtain ⟨h1, -, -, -⟩ := (slotLaw_iff s).mp hs
  rw [loseIdentity_tiles] at htiles
  rw [loseIdentity_query] at hquery
  refine slotLaw_set htiles ?_ (fun _ _ => by rw [hplans]) (fun q hq => ?_) ?_ ?_ hs
  · rw [hplans]
    have hp : s.plans.get k ≠ .none := fun h => Presence.not_empty_of_identified hk ((h1 k).1.mpr h)
    exact ⟨by simp [hp], rfl, by simp⟩
  · rw [hquery] at hq
    obtain ⟨ho, hc⟩ := Option.filter_eq_some_iff.mp hq
    simp only [decide_eq_true_eq, not_and] at hc
    refine ⟨ho, fun hqk => ⟨fun _ => ?_, fun hsense => absurd hqk (hc hsense)⟩⟩
    rw [State.tile, htiles, hqk, Table.get_set_self]
  · rw [hquery]
    exact List.filter_sublist
  · rw [hquery]
    exact fun hm => absurd rfl (mem_filter_ne hm)

/-- The presence moves between identified states at most; nothing else of slots, plans and query unit changes. -/
structure MovesPresence (s t : State) : Prop where
  query : t.query = s.query
  plans : t.plans = s.plans
  tile : ∀ k, ∃ p, t.tile k = { s.tile k with presence := p } ∧
    (p = (s.tile k).presence ∨ p.identified = true ∧ (s.tile k).presence.identified = true)

theorem MovesPresence.refl (s : State) : MovesPresence s s := ⟨rfl, rfl, fun k => ⟨(s.tile k).presence, rfl, .inl rfl⟩⟩

theorem MovesPresence.trans {u : State} (h : MovesPresence s t) (g : MovesPresence t u) : MovesPresence s u where
  query := g.query.trans h.query
  plans := g.plans.trans h.plans
  tile := fun k => by
    obtain ⟨p, hp, hpi⟩ := h.tile k
    obtain ⟨p', hp', hpi'⟩ := g.tile k
    rw [hp] at hp' hpi'
    refine ⟨p', hp', ?_⟩
    dsimp only at hpi'
    rcases hpi' with rfl | ⟨h1, h2⟩
    · exact hpi
    · rcases hpi with rfl | ⟨-, h3⟩
      · exact .inr ⟨h1, h2⟩
      · exact .inr ⟨h1, h3⟩

theorem MovesPresence.of_tiles (htiles : t.tiles = s.tiles) (hquery : t.query = s.query) (hplans : t.plans = s.plans) :
    MovesPresence s t := ⟨hquery, hplans, fun k => ⟨(s.tile k).presence, State.tile_of_tiles htiles k, .inl rfl⟩⟩

theorem movesPresence_movePresence {k : SlotId} {p : Presence} (hp : p.identified = true)
    (hk : (s.tile k).presence.identified = true) : MovesPresence s (movePresence k p s) where
  query := touches_movePresence k p (.refl _ s) (List.Subset.refl _) .query (by simp)
  plans := touches_movePresence k p (.refl _ s) (List.Subset.refl _) .plans (by simp)
  tile := fun j => by
    rw [State.tile, movePresence_tiles, Table.get_set]
    split
    · next h => subst h; exact ⟨p, rfl, .inr ⟨hp, hk⟩⟩
    · exact ⟨(s.tile j).presence, rfl, .inl rfl⟩

theorem movesPresence_computeTargets (k : SlotId) (s : State) : MovesPresence s (computeTargets k s) :=
  .of_tiles (computeTargets_tiles k s) (touches_computeTargets k (.refl _ s) (List.Subset.refl _) .query (by simp))
    (touches_computeTargets k (.refl _ s) (List.Subset.refl _) .plans (by simp))

theorem movesPresence_reevaluate {k : SlotId} (hk : (s.tile k).presence.identified = true) :
    MovesPresence s (reevaluate k s) := by
  unfold reevaluate
  dsimp only
  (repeat' split)
  · exact .refl s
  · exact movesPresence_movePresence (identifyAs_identified _ _ _) hk
  · exact .refl s

theorem movesPresence_rejudge (id : W64) (k : SlotId) (s : State) : MovesPresence s (rejudge id k s) := by
  unfold rejudge
  split
  · next hp hf =>
    have hk : (s.tile k).presence.identified = true := by rw [hp]; rfl
    (repeat' split)
    · exact movesPresence_computeTargets k s
    · exact movesPresence_movePresence rfl hk
    · exact .refl s
  · next hp hf =>
    have hk : (s.tile k).presence.identified = true := by rw [hp]; rfl
    split
    · exact movesPresence_movePresence rfl hk
    · exact .refl s
  · exact .refl s

theorem movesPresence_applyLibraryChange (id : W64) (s : State) : MovesPresence s (applyLibraryChange id s) :=
  forSlots_keeps (P := MovesPresence s) (fun k u hu => hu.trans (movesPresence_rejudge id k u)) (.refl s)

theorem slotLaw_of_movesPresence (h : MovesPresence s t) (hs : slotLaw s) : slotLaw t := by
  obtain ⟨h1, h2, h3, h4⟩ := (slotLaw_iff s).mp hs
  have hpres : ∀ k, (t.tile k).presence.identified = (s.tile k).presence.identified ∧
      ((t.tile k).presence = .empty ↔ (s.tile k).presence = .empty) ∧
      ((t.tile k).presence = .absent ↔ (s.tile k).presence = .absent) := fun k => by
    obtain ⟨p, hp, rfl | ⟨hi, hi'⟩⟩ := h.tile k
    · rw [hp]; exact ⟨rfl, Iff.rfl, Iff.rfl⟩
    · rw [hp]
      exact ⟨hi.trans hi'.symm, by simp [Presence.not_empty_of_identified, hi, hi'],
        by simp [Presence.not_absent_of_identified, hi, hi']⟩
  refine (slotLaw_iff t).mpr ⟨fun k => ?_, fun q hq => ?_, fun k hk => ?_, ?_⟩
  · obtain ⟨p, hp, -⟩ := h.tile k
    obtain ⟨he, hf, hd⟩ := h1 k
    refine ⟨by rw [h.plans, (hpres k).2.1]; exact he, ?_, ?_⟩
    · rw [(hpres k).1, hp]; exact hf
    · rw [(hpres k).2.2, hp]; exact hd
  · rw [h.query] at hq
    obtain ⟨hprobe, hsense⟩ := h2 q hq
    exact ⟨fun hk => (hpres q.slot).2.2.mpr (hprobe hk), fun hk => (hpres q.slot).1.trans (hsense hk)⟩
  · rw [h.query] at hk
    exact (hpres k).1.trans (h3 k hk)
  · rw [h.query]; exact h4

/-- A query handed over for a slot it fits. -/
theorem slotLaw_handOver {kind : QueryKind} {k : SlotId} (hq : Query.lawful s ⟨kind, k, s.query.tagCounter + 1, .waiting⟩)
    (hs : slotLaw s) : slotLaw (handOver kind k s) := by
  obtain ⟨h1, -, h3, h4⟩ := (slotLaw_iff s).mp hs
  refine (slotLaw_iff _).mpr ⟨fun j => by simpa [handOver, State.tile] using h1 j, fun q h => ?_,
    fun j hj => ?_, by simpa [handOver] using h4⟩
  · simp only [handOver, State.withQuery_fields, Option.some.injEq] at h
    subst h
    simpa [Query.lawful, handOver, State.tile] using hq
  · simpa [handOver, State.tile] using h3 j (by simpa [handOver] using hj)

/-- The query unit changed with its outstanding query kept or forgotten, and its list kept or shortened. -/
theorem slotLaw_withQuery {x : QueryUnit} (ho : ∀ q, x.outstanding = some q → q.lawful s)
    (hl : x.senseList.Sublist s.query.senseList) (hs : slotLaw s) : slotLaw (s.withQuery x) := by
  obtain ⟨h1, -, h3, h4⟩ := (slotLaw_iff s).mp hs
  refine (slotLaw_iff _).mpr ⟨fun j => by simpa [State.tile] using h1 j, fun q hq => ?_, fun j hj => ?_,
    by simpa using h4.sublist hl⟩
  · simpa [Query.lawful, State.tile] using ho q (by simpa using hq)
  · simpa [State.tile] using h3 j (hl.subset (by simpa using hj))

theorem slotLaw_dropQuery (hs : slotLaw s) : slotLaw (dropQuery s) :=
  slotLaw_withQuery (fun _ hq => nomatch hq) (List.Sublist.refl _) hs

theorem probeIsDue_absent {k : SlotId} (h : probeIsDue s k = true) : (s.tile k).presence = .absent := by
  simp only [probeIsDue, Bool.and_eq_true, decide_eq_true_eq] at h
  exact h.1

theorem slotLaw_chooseSense (hs : slotLaw s) : slotLaw (chooseSense s) := by
  obtain ⟨-, h2, h3, -⟩ := (slotLaw_iff s).mp hs
  unfold chooseSense
  split
  · next k rest hl =>
    refine slotLaw_handOver ⟨fun hp => (nomatch hp), fun _ => ?_⟩ (slotLaw_withQuery h2 (by simp [hl]) hs)
    simpa [State.tile] using h3 k (by simp [hl])
  · split
    · split
      · next k hk =>
        refine slotLaw_handOver ⟨fun hp => (nomatch hp), fun _ => ?_⟩ (slotLaw_withQuery h2 (List.Sublist.refl _) hs)
        have := List.find?_some hk
        simpa [State.tile] using this
      · exact slotLaw_withQuery h2 (List.Sublist.refl _) hs
    · exact hs

theorem slotLaw_chooseQuery (senses : Bool) (hs : slotLaw s) : slotLaw (chooseQuery senses s) := by
  unfold chooseQuery
  split
  · exact hs
  · split
    · next k hk =>
      exact slotLaw_handOver ⟨fun _ => probeIsDue_absent (List.find?_some hk), fun hp => nomatch hp⟩ hs
    · split
      · exact slotLaw_chooseSense hs
      · exact hs

/-- An accepted WRITE-PLAN: the slot leaves or enters EMPTY with its plan (R30). -/
theorem slotLaw_writePlan (k : SlotId) (p : Plan) (hs : slotLaw s) : slotLaw (planPresence k p (storePlan k p s)) := by
  obtain ⟨h1, h2, h3, h4⟩ := (slotLaw_iff s).mp hs
  have htouch := touches_storePlan k p (.refl [.plans, .shown, .incoming] s) (List.Subset.refl _)
  have htiles : (storePlan k p s).tiles = s.tiles := htouch .tiles (by simp)
  have hquery : (storePlan k p s).query = s.query := htouch .query (by simp)
  have htile := State.tile_of_tiles htiles
  have hplans := plans_writePlan k p s
  generalize hu : storePlan k p s = u at *
  have hget : ∀ j, j ≠ k → (planPresence k p u).plans.get j = s.plans.get j := fun j hj => by
    rw [hplans, Table.get_set_of_ne _ _ (Ne.symm hj)]
  have hself : (planPresence k p u).plans.get k = p := by rw [hplans, Table.get_set_self]
  have hsameplans : (planPresence k p u).plans = u.plans :=
    touches_planPresence k p (.refl _ u) (List.Subset.refl _) .plans (by simp)
  have hset : s.tiles.set k (s.tile k) = s.tiles := Table.set_get_self _ _
  -- the slot keeps an entry that fits the new plan, or becomes EMPTY with its queries withdrawn
  have hkept : p ≠ .none → (s.tile k).presence ≠ .empty → slotLaw u := by
    intro hp he
    refine slotLaw_set (k := k) (x := s.tile k) (by rw [htiles, hset]) ?_ (fun j hj => by rw [← hsameplans, hget j hj])
      (fun q hq => ?_) (by rw [hquery]) (fun hm => ?_) hs
    · rw [← hsameplans, hself]
      exact ⟨by simp [hp, he], (h1 k).2⟩
    · rw [hquery] at hq
      refine ⟨hq, fun _ => ?_⟩
      unfold Query.lawful
      rw [htile]
      exact h2 q hq
    · exact h3 k (hquery ▸ hm)
  have hempty : p = .none → slotLaw (becomeEmpty k u) := by
    intro hp
    have hpl : (becomeEmpty k u).plans = u.plans :=
      touches_becomeEmpty k (.refl _ u) (List.Subset.refl _) .plans (by simp)
    refine slotLaw_set (k := k) (x := ⟨.empty, none, none⟩) (by rw [becomeEmpty_tiles, htiles]) ?_
      (fun j hj => by rw [hpl, ← hsameplans, hget j hj]) (fun q hq => ?_) ?_ (fun hm => ?_) hs
    · rw [hpl, ← hsameplans, hself]
      exact ⟨by simp [hp], rfl, by simp⟩
    · rw [becomeEmpty_query, hquery] at hq
      obtain ⟨ho, hc⟩ := Option.filter_eq_some_iff.mp hq
      exact ⟨ho, fun hqk => absurd hqk (by simpa using hc)⟩
    · rw [becomeEmpty_query, hquery]
      exact List.filter_sublist
    · rw [becomeEmpty_query] at hm
      exact absurd rfl (mem_filter_ne hm)
  have hnotin : (s.tile k).presence.identified = false → k ∉ s.query.senseList := fun hi hm => by
    rw [h3 k hm] at hi; exact nomatch hi
  unfold planPresence at hplans hself hget hsameplans ⊢
  rw [htile] at *
  cases hp : (s.tile k).presence with
  | empty =>
    simp only [hp] at hplans hself hget hsameplans ⊢
    have hq : ∀ q, s.query.outstanding = some q → q.slot ≠ k := fun q ho hqk => by
      obtain ⟨hprobe, hsense⟩ := h2 q ho
      cases hkind : q.kind with
      | probe => have := hprobe hkind; rw [hqk, hp] at this; exact nomatch this
      | sense => have := hsense hkind; rw [hqk, hp] at this; exact nomatch this
    split
    · next hn =>
      rw [if_pos hn] at hself hget
      refine slotLaw_set (k := k) (x := s.tile k) (by rw [htiles, hset]) ?_ hget (fun q ho => ?_) (by rw [hquery])
        (fun hm => absurd (hquery ▸ hm) (hnotin (by rw [hp]; rfl))) hs
      · rw [hself]; exact ⟨by simp [hp, hn], (h1 k).2⟩
      · rw [hquery] at ho; exact ⟨ho, fun h => absurd h (hq q ho)⟩
    · next hn =>
      rw [if_neg hn] at hself hget
      have hbq : (becomeAbsent k u).query = s.query := by simp [becomeAbsent, State.withTile, hquery]
      refine slotLaw_set (k := k) (x := ⟨.absent, none, some (.instant u.clock)⟩)
        (by simp [becomeAbsent, State.withTile, htiles]) ?_ hget (fun q ho => ?_) (by rw [hbq])
        (fun hm => absurd (hbq ▸ hm) (hnotin (by rw [hp]; rfl))) hs
      · rw [hself]; exact ⟨by simp [hn], rfl, by simp⟩
      · rw [hbq] at ho; exact ⟨ho, fun h => absurd h (hq q ho)⟩
  | absent =>
    dsimp only
    split
    · next hn => exact hempty hn
    · next hn => exact hkept hn (by simp [hp])
  | matched | unknown | misfit =>
    dsimp only
    split
    · next hn => exact hempty hn
    · next hn =>
      exact slotLaw_of_movesPresence (movesPresence_reevaluate (by rw [htile, hp]; rfl)) (hkept hn (by simp [hp]))

/-- An outstanding query keeps what it fits when only its phase changes. -/
theorem Query.lawful_congr {q r : Query} (hkind : q.kind = r.kind) (hslot : q.slot = r.slot) (h : r.lawful s) :
    q.lawful s := by
  unfold Query.lawful
  rw [hkind, hslot]
  exact h

theorem tile_dropQuery (s : State) (k : SlotId) : (dropQuery s).tile k = s.tile k := by
  simp [dropQuery, State.tile]

theorem carrySwitch_same (s : State) :
    (carrySwitch s).tiles = s.tiles ∧ (carrySwitch s).query = s.query ∧ (carrySwitch s).plans = s.plans :=
  have h := touches_carrySwitch (.refl _ s) (List.Subset.refl _)
  ⟨h .tiles (by simp), h .query (by simp), h .plans (by simp)⟩

theorem slotLaw_restartValues (hs : slotLaw s) : slotLaw (restartValues s) := by
  obtain ⟨h1, -, -, -⟩ := (slotLaw_iff s).mp hs
  obtain ⟨htiles, hquery, hplans⟩ := carrySwitch_same (clearAllCauses (restartBlocks s))
  refine slotLaw_of_same htiles hplans hquery ((slotLaw_iff _).mpr ⟨fun k => ?_, fun q hq => ?_, fun k hk => ?_, ?_⟩)
  · simp only [clearAllCauses, restartBlocks, restartDrift, restartChain, restartEngine, restartFrames, State.tile,
      State.withCauses_fields, State.withLoad_fields, State.withDrift_fields, State.withQuery_fields,
      State.withTiles_fields, State.withCounts_fields, State.withEngine_fields, State.withShown_fields,
      State.withIncoming_fields, State.withReceiver_fields, Table.get_map, restartTile]
    obtain ⟨he, hf⟩ := h1 k
    split
    · exact ⟨he, hf⟩
    · next hne => exact ⟨by simpa using fun h => hne (he.mpr h), rfl, by simp⟩
  all_goals
    simp [clearAllCauses, restartBlocks, restartDrift, restartChain, restartEngine, restartFrames] at *

theorem slotLaw_reset : slotLaw State.reset := by
  refine (slotLaw_iff _).mpr ⟨fun k => ?_, fun q hq => (nomatch hq), fun k hk => (nomatch hk), List.nodup_nil⟩
  have h1 : State.reset.tile k = ⟨.empty, none, none⟩ := Table.get_replicate _ k
  have h2 : State.reset.plans.get k = .none := Table.get_replicate _ k
  rw [h1, h2]
  exact ⟨by simp, rfl, by simp⟩

/-- The slots, action by action. -/
theorem slotLaw_act (h : Act W R ps s t) (hs : slotLaw s) : slotLaw t := by
  obtain ⟨h1, h2, h3, h4⟩ := (slotLaw_iff s).mp hs
  by_cases hd : Part.tiles ∈ ps ∨ Part.plans ∈ ps ∨ Part.query ∈ ps
  · cases h <;> simp only [List.mem_cons, reduceCtorEq, List.not_mem_nil, or_self, or_false] at hd
    case loseTile k hk => exact slotLaw_lost hk (by simp) (by simp) (by
      exact touches_loseTile k (.refl _ s) (List.Subset.refl _) .plans (by simp)) hs
    case loseIdentity k hk => exact slotLaw_lost hk rfl rfl (by
      exact touches_loseIdentity k (.refl _ s) (List.Subset.refl _) .plans (by simp)) hs
    case probeAt k due hk =>
      have hnotin : k ∉ s.query.senseList := fun hm => by
        have := h3 k hm; rw [hk] at this; exact nomatch this
      refine slotLaw_set (k := k) (x := { s.tile k with due := some due }) (by simp [State.withTile]) ?_
        (fun j _ => by simp [State.withTile]) (fun q hq => ?_) (by simp [State.withTile])
        (fun hm => absurd (by simpa [State.withTile] using hm) hnotin) hs
      · obtain ⟨he, hf, -⟩ := h1 k
        exact ⟨by simpa [State.withTile] using he, hf, by simp [hk]⟩
      · have ho : s.query.outstanding = some q := by simpa [State.withTile] using hq
        refine ⟨ho, fun hqk => ?_⟩
        obtain ⟨hprobe, hsense⟩ := h2 q ho
        unfold Query.lawful
        rw [State.tile_withTile, if_pos hqk.symm]
        exact ⟨fun hkind => hk, fun hkind => by rw [← hqk]; exact hsense hkind⟩
    case query x ht hl ho =>
      refine slotLaw_withQuery (fun q hq => ?_) (by rw [hl]) hs
      obtain ⟨r, hr, hkind, hslot, -⟩ := ho q hq
      exact Query.lawful_congr hkind hslot (h2 r hr)
    case choose senses => exact slotLaw_chooseQuery senses hs
    case listSense k hk hnotin =>
      refine (slotLaw_iff _).mpr ⟨fun j => by simpa [State.tile] using h1 j, fun q hq => ?_, fun j hj => ?_, ?_⟩
      · simpa [Query.lawful, State.tile] using h2 q (by simpa using hq)
      · have hj' : j ∈ s.query.senseList ∨ j = k := by simpa using hj
        rcases hj' with hj' | rfl
        · simpa [State.tile] using h3 j hj'
        · simpa [State.tile] using hk
      · simp only [State.withQuery_fields]
        exact List.nodup_append.mpr ⟨h4, List.nodup_singleton _, fun a ha b hb => by
          rw [List.mem_singleton.mp hb]; exact fun e => hnotin (e ▸ ha)⟩
    case identified q f hk hq =>
      have habs : (s.tile q.slot).presence = .absent := (h2 q hq).1 hk
      have htouch := touches_identify q.slot f (.refl _ (dropQuery s)) (List.Subset.refl _)
      have hquery : (identify q.slot f (dropQuery s)).query = (dropQuery s).query := htouch .query (by simp)
      have hplans : (identify q.slot f (dropQuery s)).plans = s.plans := (htouch .plans (by simp)).trans (by simp [dropQuery])
      refine slotLaw_set (k := q.slot) (identify_tiles _ _ _) ?_ (fun j _ => by rw [hplans]; simp [dropQuery])
        (fun r hr => ?_) (by rw [hquery]) (fun _ => identifyAs_identified _ _ _) (slotLaw_dropQuery hs)
      · have hne : s.plans.get q.slot ≠ .none := fun hn => by
          rw [(h1 q.slot).1.mpr hn] at habs; exact nomatch habs
        have hi := identifyAs_identified ((dropQuery s).plans.get q.slot) (dropQuery s).records f
        rw [hplans]
        exact ⟨by simp [hne, Presence.not_empty_of_identified hi], hi.symm,
          by simp [Presence.not_absent_of_identified hi]⟩
      · rw [hquery] at hr; exact nomatch hr
    case probeTimedOut q at_ hk hq =>
      have habs : (s.tile q.slot).presence = .absent := (h2 q hq).1 hk
      have hnotin : q.slot ∉ s.query.senseList := fun hm => by
        have := h3 q.slot hm; rw [habs] at this; exact nomatch this
      refine slotLaw_set (k := q.slot) (x := { s.tile q.slot with due := some (.afterProbe at_) })
        (by simp [probeTimedOut, dropQuery, State.withTile, State.tile]) ?_
        (fun j _ => by simp [probeTimedOut, dropQuery, State.withTile])
        (fun r hr => by simp [probeTimedOut, dropQuery, State.withTile] at hr)
        (by simp [probeTimedOut, dropQuery, State.withTile])
        (fun hm => absurd (by simpa [probeTimedOut, dropQuery, State.withTile] using hm) hnotin) hs
      obtain ⟨he, hf, -⟩ := h1 q.slot
      exact ⟨by simpa [probeTimedOut, dropQuery, State.withTile] using he, hf, by simp [habs]⟩
    case sensed q short temperature hours hk hq =>
      have hi : ((dropQuery s).tile q.slot).presence.identified = true := by
        rw [tile_dropQuery]; exact (h2 q hq).2 hk
      have hlost := slotLaw_lost (t := loseTile q.slot (dropQuery s)) hi (by simp) (by simp)
        (touches_loseTile q.slot (.refl _ _) (List.Subset.refl _) .plans (by simp)) (slotLaw_dropQuery hs)
      unfold acceptReading
      (repeat' split)
      · have htouch := touches_storeReading q.slot temperature.toInt hours.toNat (.refl _ (dropQuery s)) (List.Subset.refl _)
        exact slotLaw_of_same (htouch .tiles (by simp)) (htouch .plans (by simp)) (htouch .query (by simp))
          (slotLaw_dropQuery hs)
      · exact hlost
      · exact hlost
    case senseTimedOut q hk hq =>
      have htouch := touches_recordMiss q.slot (.refl _ (dropQuery s)) (List.Subset.refl _)
      have hm : slotLaw (recordMiss q.slot (dropQuery s)) :=
        slotLaw_of_same (htouch .tiles (by simp)) (htouch .plans (by simp)) (htouch .query (by simp))
          (slotLaw_dropQuery hs)
      have hi : ((recordMiss q.slot (dropQuery s)).tile q.slot).presence.identified = true := by
        rw [State.tile_of_tiles (htouch .tiles (by simp)), tile_dropQuery]; exact (h2 q hq).2 hk
      unfold senseTimedOut
      dsimp only
      split
      · exact slotLaw_lost hi (by simp) (by simp)
          (touches_loseTile q.slot (.refl _ _) (List.Subset.refl _) .plans (by simp)) hm
      · exact hm
    case writePlan k e p he hp hne => exact slotLaw_writePlan k p hs
    case install l hl hc =>
      exact slotLaw_of_movesPresence (movesPresence_applyLibraryChange _ _)
        (slotLaw_of_same (by simp) (by simp) (by simp) hs)
    case delete id hid =>
      exact slotLaw_of_movesPresence (movesPresence_applyLibraryChange _ _)
        (slotLaw_of_same (by simp) (by simp) (by simp) hs)
    case restartValues => exact slotLaw_restartValues hs
    case powerReset => exact slotLaw_of_same (s := State.reset) rfl rfl rfl slotLaw_reset
  · simp only [not_or] at hd
    exact slotLaw_of_same (h.touches .tiles hd.1) (h.touches .plans hd.2.1) (h.touches .query hd.2.2) hs

end

end Sys2Proof.Machine
end

section
/-! PROOFS. The laws of the query tags (R148) and of the MATCHED slots (R61) action by action, and O57. -/

namespace Sys2Proof.Machine

section
variable {W R : Prop} {ps : List Part} {s t : State}

/-! ## Tags -/

/-- The outstanding query kept or forgotten under the same tag counter. -/
theorem tagLaw_of_kept (hc : t.query.tagCounter = s.query.tagCounter)
    (ho : ∀ q, t.query.outstanding = some q → ∃ r, s.query.outstanding = some r ∧ q.tag = r.tag) (hs : tagLaw s) :
    tagLaw t := by
  intro q hq
  obtain ⟨r, hr, htag⟩ := ho q hq
  rw [htag, hc]
  exact hs r hr

theorem tagLaw_of_query (h : t.query = s.query) (hs : tagLaw s) : tagLaw t :=
  tagLaw_of_kept (by rw [h]) (fun q hq => ⟨q, h ▸ hq, rfl⟩) hs

theorem tagLaw_of_none (h : t.query.outstanding = none) : tagLaw t := fun q hq => by
  rw [h] at hq
  exact nomatch hq

theorem tagLaw_loseIdentity {k : SlotId} (h : t.query = (loseIdentity k s).query) (hs : tagLaw s) : tagLaw t := by
  refine tagLaw_of_kept (by rw [h, loseIdentity_query]) (fun q hq => ?_) hs
  rw [h, loseIdentity_query] at hq
  exact ⟨q, (Option.filter_eq_some_iff.mp hq).1, rfl⟩

theorem tagLaw_dropQuery (s : State) : tagLaw (dropQuery s) := tagLaw_of_none rfl

theorem tagLaw_handOver (kind : QueryKind) (k : SlotId) (s : State) : tagLaw (handOver kind k s) := by
  rintro q ⟨⟩
  rfl

/-- A chosen query takes a new tag; where none is chosen, the outstanding query and the counter are kept. -/
theorem tagLaw_chooseQuery (senses : Bool) (hs : tagLaw s) : tagLaw (chooseQuery senses s) := by
  unfold chooseQuery
  split
  · exact hs
  · split
    · exact tagLaw_handOver _ _ _
    · split
      · unfold chooseSense
        split
        · exact tagLaw_handOver _ _ _
        · split
          · split
            · exact tagLaw_handOver _ _ _
            · exact tagLaw_of_kept rfl (fun q hq => ⟨q, hq, rfl⟩) hs
          · exact hs
      · exact hs

/-- What an accepted WRITE-PLAN leaves outstanding was outstanding before. -/
theorem tagLaw_planPresence (k : SlotId) (p : Plan) (hs : tagLaw s) : tagLaw (planPresence k p s) := by
  have hempty : tagLaw (becomeEmpty k s) := by
    refine tagLaw_of_kept (by rw [becomeEmpty_query]) (fun q hq => ?_) hs
    rw [becomeEmpty_query] at hq
    exact ⟨q, (Option.filter_eq_some_iff.mp hq).1, rfl⟩
  unfold planPresence
  split
  · split
    · exact hs
    · exact tagLaw_of_query (by simp [becomeAbsent, State.withTile]) hs
  · split
    · exact hempty
    · exact hs
  · split
    · exact hempty
    · exact tagLaw_of_query (touches_reevaluate k (.refl _ s) (List.Subset.refl _) .query (by simp)) hs

/-- The tags, action by action. -/
theorem tagLaw_act (h : Act W R ps s t) (hs : tagLaw s) : tagLaw t := by
  by_cases hd : Part.query ∈ ps
  · cases h <;> simp only [List.mem_cons, reduceCtorEq, List.not_mem_nil, or_self, or_false] at hd
    case loseTile k hk => exact tagLaw_loseIdentity (loseTile_query k s) hs
    case loseIdentity k hk => exact tagLaw_loseIdentity rfl hs
    case query x ht hl ho =>
      refine tagLaw_of_kept ht (fun q hq => ?_) hs
      obtain ⟨r, hr, -, -, htag⟩ := ho q hq
      exact ⟨r, hr, htag⟩
    case choose senses => exact tagLaw_chooseQuery senses hs
    case listSense k hk hnotin => exact tagLaw_of_kept rfl (fun q hq => ⟨q, hq, rfl⟩) hs
    case identified q f hk hq =>
      exact tagLaw_of_query (touches_identify q.slot f (.refl _ _) (List.Subset.refl _) .query (by simp)) (tagLaw_dropQuery s)
    case probeTimedOut q at_ hk hq => exact tagLaw_of_query (by simp [probeTimedOut, State.withTile]) (tagLaw_dropQuery s)
    case sensed q short temperature hours hk hq =>
      unfold acceptReading
      (repeat' split)
      · exact tagLaw_of_query (touches_storeReading _ _ _ (.refl _ _) (List.Subset.refl _) .query (by simp))
          (tagLaw_dropQuery s)
      · exact tagLaw_loseIdentity (loseTile_query _ _) (tagLaw_dropQuery s)
      · exact tagLaw_loseIdentity (loseTile_query _ _) (tagLaw_dropQuery s)
    case senseTimedOut q hk hq =>
      have hmiss : tagLaw (recordMiss q.slot (dropQuery s)) :=
        tagLaw_of_query (touches_recordMiss _ (.refl _ _) (List.Subset.refl _) .query (by simp)) (tagLaw_dropQuery s)
      unfold senseTimedOut
      dsimp only
      split
      · exact tagLaw_loseIdentity (loseTile_query _ _) hmiss
      · exact hmiss
    case writePlan k e p he hp hne =>
      exact tagLaw_planPresence k p (tagLaw_of_query
        (touches_storePlan k p (.refl _ s) (List.Subset.refl _) .query (by simp)) hs)
    case restartValues =>
      refine tagLaw_of_none ?_
      rw [show (restartValues s).query = _ from (carrySwitch_same _).2.1]
      simp [clearAllCauses, restartBlocks, restartDrift, restartChain]
    case powerReset => exact tagLaw_of_none rfl
  · exact tagLaw_of_query (h.touches .query hd) hs

/-! ## Matches -/

/-- What `matchLaw` says of one slot: a MATCHED tile has its record in the library. -/
def Tile.bound (records : List Record) (x : Tile) : Prop :=
  x.presence = .matched → ∃ f, x.facts = some f ∧ libraryMatches records f = true

/-- The same of a slot that the change of one record has still to re-judge. -/
def Tile.boundBut (id : W64) (records : List Record) (x : Tile) : Prop :=
  x.presence = .matched → ∃ f, x.facts = some f ∧ (f.serial = id ∨ libraryMatches records f = true)

theorem Tile.bound_of_ne {records : List Record} {x : Tile} (h : x.presence ≠ .matched) : x.bound records :=
  fun hm => absurd hm h

theorem matchLaw_set {k : SlotId} {x : Tile} (htiles : t.tiles = s.tiles.set k x) (hrecords : t.records = s.records)
    (hx : x.bound s.records) (hs : matchLaw s) : matchLaw t := by
  intro j
  rw [State.tile, htiles, hrecords, Table.get_set]
  split
  · exact hx
  · exact hs j

theorem matchLaw_of_same (htiles : t.tiles = s.tiles) (hrecords : t.records = s.records) (hs : matchLaw s) :
    matchLaw t := by
  intro j
  rw [State.tile_of_tiles htiles, hrecords]
  exact hs j

theorem matchLaw_loseIdentity {k : SlotId} (htiles : t.tiles = (loseIdentity k s).tiles) (hrecords : t.records = s.records)
    (hs : matchLaw s) : matchLaw t :=
  matchLaw_set (htiles.trans (loseIdentity_tiles k s)) hrecords (Tile.bound_of_ne (by simp)) hs

theorem matchLaw_dropQuery (hs : matchLaw s) : matchLaw (dropQuery s) := matchLaw_of_same rfl rfl hs

theorem records_loseTile (k : SlotId) (s : State) : (loseTile k s).records = s.records :=
  touches_loseTile k (.refl _ s) (List.Subset.refl _) .records (by simp)

theorem matchLaw_reevaluate (k : SlotId) (hs : matchLaw s) : matchLaw (reevaluate k s) := by
  have hrecords : (reevaluate k s).records = s.records :=
    touches_reevaluate k (.refl _ s) (List.Subset.refl _) .records (by simp)
  unfold reevaluate at hrecords ⊢
  split
  · next f hf =>
    dsimp only
    split
    · exact hs
    · next hne =>
      simp only [hf, hne, if_false] at hrecords
      exact matchLaw_set (movePresence_tiles _ _ _) hrecords
        (fun hm => ⟨f, hf, libraryMatches_of_identifyAs hm⟩) hs
  · exact hs

theorem matchLaw_planPresence (k : SlotId) (p : Plan) (hs : matchLaw s) : matchLaw (planPresence k p s) := by
  have hempty : matchLaw (becomeEmpty k s) :=
    matchLaw_set (becomeEmpty_tiles k s) (touches_becomeEmpty k (.refl _ s) (List.Subset.refl _) .records (by simp))
      (Tile.bound_of_ne (by simp)) hs
  unfold planPresence
  split
  · split
    · exact hs
    · exact matchLaw_set (k := k) (x := ⟨.absent, none, some (.instant s.clock)⟩) (by simp [becomeAbsent, State.withTile])
        (by simp [becomeAbsent, State.withTile]) (Tile.bound_of_ne (by simp)) hs
  · split
    · exact hempty
    · exact hs
  · split
    · exact hempty
    · exact matchLaw_reevaluate k hs

/-! ### Library changes -/

theorem find?_set_of_not {α : Type*} {p : α → Bool} {a : α} (ha : p a = false) (l : List α) (i : Nat)
    (hi : ∀ h : i < l.length, p l[i] = false) : (l.set i a).find? p = l.find? p := by
  induction l generalizing i with
  | nil => rfl
  | cons x l ih =>
    cases i with
    | zero =>
      have hx : p x = false := hi (Nat.zero_lt_succ _)
      simp [ha, hx]
    | succ i =>
      have hl : (l.set i a).find? p = l.find? p := ih i fun h => hi (Nat.succ_lt_succ h)
      simp only [List.set_cons_succ, List.find?_cons, hl]

theorem find?_eraseIdx_of_not {α : Type*} {p : α → Bool} (l : List α) (i : Nat)
    (hi : ∀ h : i < l.length, p l[i] = false) : (l.eraseIdx i).find? p = l.find? p := by
  induction l generalizing i with
  | nil => rfl
  | cons x l ih =>
    cases i with
    | zero =>
      have hx : p x = false := hi (Nat.zero_lt_succ _)
      simp [hx]
    | succ i =>
      have hl : (l.eraseIdx i).find? p = l.find? p := ih i fun h => hi (Nat.succ_lt_succ h)
      simp only [List.eraseIdx_cons_succ, List.find?_cons, hl]

/-- The record at an identity's index is no other identity's. -/
theorem recIdentity_ne_at_recordIndex {records : List Record} {id other : W64} (hne : other ≠ id)
    (h : recordIndex records id < records.length) : (recIdentity records[recordIndex records id] == other) = false := by
  rw [(getElem_recordIndex h).2]
  exact beq_false_of_ne (Ne.symm hne)

/-- An installed record is found under its own identity alone. -/
theorem findRecord_putRecord_of_ne {records : List Record} {id other : W64} {r : Record} (hr : recIdentity r = id)
    (hne : other ≠ id) : findRecord (putRecord records id r) other = findRecord records other := by
  have hr' : (recIdentity r == other) = false := hr ▸ beq_false_of_ne (Ne.symm hne)
  unfold putRecord
  split
  · exact find?_set_of_not (p := fun x => recIdentity x == other) hr' _ _ (recIdentity_ne_at_recordIndex hne)
  · rw [findRecord, List.find?_append]
    simp [hr', findRecord]

theorem findRecord_eraseIdx_of_ne {records : List Record} {id other : W64} (hne : other ≠ id) :
    findRecord (records.eraseIdx (recordIndex records id)) other = findRecord records other :=
  find?_eraseIdx_of_not _ _ (recIdentity_ne_at_recordIndex hne)

theorem libraryMatches_congr {r r' : List Record} {f : TileFacts} (h : findRecord r f.serial = findRecord r' f.serial) :
    libraryMatches r f = libraryMatches r' f := by rw [libraryMatches, libraryMatches, h]

theorem rejudge_tile_other {id : W64} {j k : SlotId} (h : j ≠ k) (u : State) : (rejudge id j u).tile k = u.tile k := by
  have hmove : ∀ p, (movePresence j p u).tile k = u.tile k := fun p => by
    rw [State.tile, movePresence_tiles, Table.get_set_of_ne _ _ h]
    rfl
  unfold rejudge
  (repeat' split) <;> first
    | rfl
    | exact hmove _
    | exact State.tile_of_tiles (computeTargets_tiles j u) k

theorem rejudge_bound {id : W64} {k : SlotId} {u : State} (h : (u.tile k).boundBut id u.records) :
    ((rejudge id k u).tile k).bound u.records := by
  have hmove : ∀ p, (movePresence k p u).tile k = { u.tile k with presence := p } := fun p => by
    rw [State.tile, movePresence_tiles, Table.get_set_self]
  unfold rejudge
  split
  · next f hp hf =>
    obtain ⟨g, hg, hor⟩ := h hp
    obtain rfl : f = g := Option.some.inj (hf.symm.trans hg)
    split
    · split
      · next hm =>
        rw [State.tile_of_tiles (computeTargets_tiles k u)]
        exact fun _ => ⟨f, hf, hm⟩
      · rw [hmove]
        exact Tile.bound_of_ne (by simp)
    · next hne => exact fun _ => ⟨f, hf, hor.resolve_left hne⟩
  · next f hp hf =>
    split
    · next hm =>
      rw [hmove]
      exact fun _ => ⟨f, hf, hm.2⟩
    · exact Tile.bound_of_ne (by rw [hp]; simp)
  · next hno _ =>
    intro hm
    obtain ⟨f, hf, -⟩ := h hm
    exact absurd hf (hno f hm)

theorem records_rejudge (id : W64) (k : SlotId) (s : State) : (rejudge id k s).records = s.records :=
  touches_rejudge id k (.refl _ s) (List.Subset.refl _) .records (by simp)

/-- After a change of one record every slot is re-judged; the slots of other serials find what they found before. -/
theorem matchLaw_applyLibraryChange {id : W64} (htiles : t.tiles = s.tiles)
    (hfind : ∀ other, other ≠ id → findRecord t.records other = findRecord s.records other) (hs : matchLaw s) :
    matchLaw (applyLibraryChange id t) := by
  have h : ∀ k, (applyLibraryChange id t).records = t.records ∧
      ((applyLibraryChange id t).tile k).bound t.records := by
    refine forSlots_each (Pre := fun k u => u.records = t.records ∧ (u.tile k).boundBut id t.records)
      (Post := fun k u => u.records = t.records ∧ (u.tile k).bound t.records) ?_ ?_ ?_ fun k => ⟨rfl, fun hm => ?_⟩
    · rintro k u ⟨hr, hb⟩
      refine ⟨(records_rejudge id k u).trans hr, ?_⟩
      have := rejudge_bound (hr ▸ hb)
      rwa [hr] at this
    · rintro j k u hne ⟨hr, hb⟩
      exact ⟨(records_rejudge id j u).trans hr, by rw [rejudge_tile_other hne]; exact hb⟩
    · rintro j k u hne ⟨hr, hb⟩
      exact ⟨(records_rejudge id j u).trans hr, by rw [rejudge_tile_other hne]; exact hb⟩
    · rw [State.tile_of_tiles htiles] at hm ⊢
      obtain ⟨f, hf, hmatch⟩ := hs k hm
      refine ⟨f, hf, ?_⟩
      by_cases hid : f.serial = id
      · exact .inl hid
      · exact .inr (by rwa [libraryMatches_congr (hfind _ hid)])
  intro k
  rw [(h k).1]
  exact (h k).2

theorem matchLaw_restartValues (s : State) : matchLaw (restartValues s) := by
  have htiles : (restartValues s).tiles = s.tiles.map (restartTile s.clock) := by
    rw [show (restartValues s).tiles = _ from (carrySwitch_same _).1]
    simp [clearAllCauses, restartBlocks, restartDrift, restartChain, restartEngine, restartFrames]
  intro k hm
  rw [State.tile, htiles, Table.get_map, restartTile] at hm
  split at hm
  · next he => rw [he] at hm; exact nomatch hm
  · exact nomatch hm

theorem matchLaw_reset : matchLaw State.reset := by
  intro k hm
  have : State.reset.tile k = ⟨.empty, none, none⟩ := Table.get_replicate _ k
  rw [this] at hm
  exact nomatch hm

/-- The matches, action by action. -/
theorem matchLaw_act (h : Act W R ps s t) (hs : matchLaw s) : matchLaw t := by
  by_cases hd : Part.tiles ∈ ps
  · cases h <;> simp only [List.mem_cons, reduceCtorEq, List.not_mem_nil, or_self, or_false] at hd
    case loseTile k hk => exact matchLaw_loseIdentity (k := k) (by simp) (records_loseTile k s) hs
    case loseIdentity k hk =>
      exact matchLaw_loseIdentity rfl (touches_loseIdentity k (.refl _ s) (List.Subset.refl _) .records (by simp)) hs
    case probeAt k due hk => exact matchLaw_set rfl rfl (hs k) hs
    case identified q f hk hq =>
      refine matchLaw_set (identify_tiles _ _ _) ?_ (fun hm => ⟨f, rfl, libraryMatches_of_identifyAs hm⟩)
        (matchLaw_dropQuery hs)
      exact touches_identify q.slot f (.refl _ _) (List.Subset.refl _) .records (by simp)
    case probeTimedOut q at_ hk hq => exact matchLaw_set rfl rfl (hs q.slot) (matchLaw_dropQuery hs)
    case sensed q short temperature hours hk hq =>
      have hlost : matchLaw (loseTile q.slot (dropQuery s)) :=
        matchLaw_loseIdentity (k := q.slot) (by simp) (records_loseTile _ _) (matchLaw_dropQuery hs)
      unfold acceptReading
      (repeat' split)
      · have htouch := touches_storeReading q.slot temperature.toInt hours.toNat (.refl _ (dropQuery s)) (List.Subset.refl _)
        exact matchLaw_of_same (htouch .tiles (by simp)) (htouch .records (by simp)) (matchLaw_dropQuery hs)
      · exact hlost
      · exact hlost
    case senseTimedOut q hk hq =>
      have htouch := touches_recordMiss q.slot (.refl _ (dropQuery s)) (List.Subset.refl _)
      have hm : matchLaw (recordMiss q.slot (dropQuery s)) :=
        matchLaw_of_same (htouch .tiles (by simp)) (htouch .records (by simp)) (matchLaw_dropQuery hs)
      unfold senseTimedOut
      dsimp only
      split
      · exact matchLaw_loseIdentity (k := q.slot) (by simp) (records_loseTile _ _) hm
      · exact hm
    case writePlan k e p he hp hne =>
      have htouch := touches_storePlan k p (.refl [.plans, .shown, .incoming] s) (List.Subset.refl _)
      exact matchLaw_planPresence k p (matchLaw_of_same (htouch .tiles (by simp)) (htouch .records (by simp)) hs)
    case install l hl hc =>
      obtain ⟨hwords, hbad, -⟩ := of_closeRefusal_eq_none hc
      have hid := recIdentity_of_firstBadWord (by omega) hbad
      exact matchLaw_applyLibraryChange (by simp) (fun other hne => findRecord_putRecord_of_ne hid hne) hs
    case delete id hid => exact matchLaw_applyLibraryChange (by simp) (fun other hne => findRecord_eraseIdx_of_ne hne) hs
    case restartValues => exact matchLaw_restartValues s
    case powerReset => exact matchLaw_of_same (s := State.reset) rfl rfl matchLaw_reset
  · refine matchLaw_of_same (h.touches .tiles hd) (h.touches .records fun hm => hd ?_) hs
    cases h <;> simp_all [requestParts]

end

/-- Settles O57: a step is a chain of actions (`step_keeps`), each of which keeps the three laws. -/
theorem slotLawsAreKept : Obligations.SlotLawsAreKept := by
  unfold Obligations.SlotLawsAreKept
  intro s t h
  exact ⟨step_keeps False False False.elim False.elim (fun _ _ _ => slotLaw_act) h,
    step_keeps False False False.elim False.elim (fun _ _ _ => tagLaw_act) h,
    step_keeps False False False.elim False.elim (fun _ _ _ => matchLaw_act) h⟩

end Sys2Proof.Machine
end

section
/-! PROOFS. The laws of the active source and of the upstream ports (R6, R7, R11, R12) action by action, and O58. -/

namespace Sys2Proof.Machine

section
variable {W R : Prop} {ps : List Part} {s t : State}

/-! ## What the operations on the frame receiver leave -/

theorem State.receiving_of_phase (h : t.receiver.phase = s.receiver.phase) : t.receiving = s.receiving := by
  rw [State.receiving, State.receiving, h]

theorem State.preferred_of_settings (h : t.settings = s.settings) : t.preferred = s.preferred := by
  rw [State.preferred, State.preferred, State.setting, State.setting, h]

theorem State.preferred_withSettings {n : SettingId} {v : Int} (hn : n ≠ 0) (s : State) :
    (s.withSettings (s.settings.set n v)).preferred = s.preferred := by
  have h : (s.settings.set n v).get 0 = s.settings.get 0 := Table.get_set_of_ne _ _ hn
  show (if (s.settings.set n v).get 0 = 1 then Up.ub else Up.ua) = _
  rw [h]
  rfl

theorem sourceChoice_of_kept (hup : ∀ p, (t.up p).state = (s.up p).state) (hpref : t.preferred = s.preferred) :
    sourceChoice t = sourceChoice s := by
  rw [sourceChoice, sourceChoice, hpref, hup, hup]

theorem up_of_sourceChoice {p : Up} (h : sourceChoice s = some p) : (s.up p).state = .up := by
  unfold sourceChoice at h
  split at h
  · next hu => exact Option.some.inj h ▸ hu
  · split at h
    · next hu => exact Option.some.inj h ▸ hu
    · exact nomatch h

theorem eq_otherPort_of_ne {p q : Up} (h : p ≠ q) : p = otherPort q := by
  cases p with
  | ua =>
    cases q with
    | ua => exact absurd rfl h
    | ub => rfl
  | ub =>
    cases q with
    | ua => rfl
    | ub => exact absurd rfl h

theorem sourceChoice_eq_none (h : sourceChoice s = none) (p : Up) : (s.up p).state ≠ .up := by
  unfold sourceChoice at h
  split at h
  · exact nomatch h
  · next hpref =>
    split at h
    · exact nomatch h
    · next hother =>
      intro hp
      by_cases hq : p = s.preferred
      · exact hpref (hq ▸ hp)
      · exact hother (eq_otherPort_of_ne hq ▸ hp)

theorem abandonFrame_receiver (s : State) : (abandonFrame s).receiver = { s.receiver with phase := .idle } := by
  unfold abandonFrame State.receiving
  cases hp : s.receiver.phase with
  | idle => simp [← hp]
  | receiving m n => simp

theorem abandonFrame_receiving (s : State) : (abandonFrame s).receiving = false := by
  rw [State.receiving, abandonFrame_receiver]

theorem abandonFrame_kept (s : State) : (∀ p, (abandonFrame s).up p = s.up p) ∧ (abandonFrame s).settings = s.settings ∧
    (abandonFrame s).selector = s.selector :=
  have h := touches_abandonFrame (.refl _ s) (List.Subset.refl _)
  ⟨fun p => h (.up p) (by simp), h .settings (by simp), h .selector (by simp)⟩

/-- A scan start takes the READY frame. -/
theorem startScan_receiver (s : State) : (startScan s).receiver = { s.receiver with ready := false } := by
  have h : ∀ u, (enterScanning (formLevel (slewAll u))).receiver = u.receiver := fun u =>
    touches_enterScanning (touches_formLevel (touches_slewAll (.refl [.drift, .engine, .level, .causes] u) (by simp))
      (by simp)) (by simp) .receiver (by simp)
  rw [startScan, h]
  split
  · simp [swap]
  · next hr => rw [← Bool.not_eq_true _ |>.mp hr]

/-! ## The active source -/

/-- The receiver's part of `sourceLaw`. -/
def receiverLaw (s : State) : Prop := s.receiving = true → s.selector.active.isSome = true ∧ s.receiver.ready = false

theorem sourceLaw.receiverLaw (hs : sourceLaw s) : receiverLaw s := hs.2.2.2

theorem receiverLaw_of_kept (hsel : t.selector.active = s.selector.active) (hphase : t.receiver.phase = s.receiver.phase)
    (hready : t.receiver.ready = s.receiver.ready ∨ t.receiver.ready = false) (hs : receiverLaw s) : receiverLaw t := by
  intro hr
  obtain ⟨ha, hn⟩ := hs (State.receiving_of_phase hphase ▸ hr)
  exact ⟨hsel ▸ ha, hready.elim (fun h => h.trans hn) id⟩

theorem sourceLaw_of_kept (hup : ∀ p, (t.up p).state = (s.up p).state) (hpref : t.preferred = s.preferred)
    (hsel : t.selector = s.selector) (hphase : t.receiver.phase = s.receiver.phase)
    (hready : t.receiver.ready = s.receiver.ready ∨ t.receiver.ready = false) (hs : sourceLaw s) : sourceLaw t := by
  have hlaw := receiverLaw_of_kept (by rw [hsel]) hphase hready hs.receiverLaw
  obtain ⟨h1, h2, h3, -⟩ := hs
  have hchoice := sourceChoice_of_kept hup hpref
  refine ⟨?_, ?_, ?_, hlaw⟩
  · intro p hp
    rw [hup]
    exact h1 p (hsel ▸ hp)
  · rw [hchoice, hsel]
    exact h2
  · rw [hchoice, hsel, State.receiving_of_phase hphase]
    exact h3

theorem sourceLaw_of_same (hup : ∀ p, t.up p = s.up p) (hset : t.settings = s.settings) (hsel : t.selector = s.selector)
    (hrec : t.receiver = s.receiver) (hs : sourceLaw s) : sourceLaw t :=
  sourceLaw_of_kept (fun p => by rw [hup]) (State.preferred_of_settings hset) hsel (by rw [hrec]) (.inl (by rw [hrec])) hs

theorem sourceLaw_withUp {p : Up} {x : Upstream} (hx : x.state = (s.up p).state) (hs : sourceLaw s) :
    sourceLaw (s.withUp p x) := by
  have h := touches_withUp p x (.refl [.up p] s) (by simp)
  refine sourceLaw_of_kept (fun q => ?_) (State.preferred_of_settings (h .settings (by simp))) (h .selector (by simp))
    (by rw [show State.receiver _ = _ from h .receiver (by simp)])
    (.inl (by rw [show State.receiver _ = _ from h .receiver (by simp)])) hs
  rw [State.withUp_up]
  split
  · next he => subst he; exact hx
  · rfl

/-- A settled selector: the choice is active and nothing is pending. -/
theorem sourceLaw_of_choice (hsel : t.selector = ⟨sourceChoice t, none⟩) (hlaw : receiverLaw t) : sourceLaw t := by
  refine ⟨fun p hp => ?_, fun _ => by rw [hsel], fun p hp => ?_, hlaw⟩
  · rw [hsel] at hp
    exact up_of_sourceChoice hp
  · rw [hsel] at hp
    exact nomatch hp

theorem sourceChoice_withSelector (x : Selector) (s : State) : sourceChoice (s.withSelector x) = sourceChoice s :=
  sourceChoice_of_kept (fun p => by cases p <;> simp [State.up]) (State.preferred_of_settings (by simp))

theorem sourceChoice_switchSource (x : Option Up) (s : State) : sourceChoice (switchSource x s) = sourceChoice s :=
  have h := touches_switchSource x (.refl [.selector, .causes] s) (by simp)
  sourceChoice_of_kept (fun p => by rw [h (.up p) (by simp)]) (State.preferred_of_settings (h .settings (by simp)))

theorem switchSource_selector (x : Option Up) (s : State) : (switchSource x s).selector = ⟨x, none⟩ := by
  simp [switchSource, raise]

theorem switchSource_receiver (x : Option Up) (s : State) : (switchSource x s).receiver = s.receiver := by
  simp [switchSource, raise]

/-- Where no frame is RECEIVING, a switch to the choice settles the selector. -/
theorem sourceLaw_switchSource {x : Option Up} (hx : sourceChoice s = x) (hr : s.receiving = false) :
    sourceLaw (switchSource x s) := by
  refine sourceLaw_of_choice (by rw [switchSource_selector, sourceChoice_switchSource, hx]) fun h => ?_
  rw [State.receiving_of_phase (s := s) (by rw [switchSource_receiver]), hr] at h
  exact nomatch h

/-- R11, R12: whatever the selector held, after settling it obeys the law. -/
theorem sourceLaw_settle (hs : receiverLaw s) : sourceLaw (settle s) := by
  have hchoose : ∀ x : Selector, x = ⟨sourceChoice s, none⟩ → x.active = s.selector.active →
      sourceLaw (s.withSelector x) := fun x hx ha =>
    sourceLaw_of_choice (by simp [sourceChoice_withSelector, hx])
      (receiverLaw_of_kept (by simp [ha]) (by simp) (.inl (by simp)) hs)
  unfold settle
  split
  · next hnone =>
    have hr : s.receiving = false := by
      by_contra h
      have := (hs (by simpa using h)).1
      rw [hnone] at this
      exact nomatch this
    split
    · next p hp => exact sourceLaw_switchSource hp hr
    · next hp => exact hchoose _ (by rw [hp]) (by rw [hnone])
  · next a ha =>
    split
    · refine sourceLaw_switchSource (sourceChoice_of_kept (fun p => ?_) (State.preferred_of_settings ?_))
        (abandonFrame_receiving s)
      · rw [(abandonFrame_kept s).1]
      · exact (abandonFrame_kept s).2.1
    · next hup =>
      rw [ne_eq, not_not] at hup
      split
      · next hc => exact hchoose _ (by rw [hc]) (by rw [ha])
      · next hc =>
        split
        · next hr =>
          refine ⟨fun p hp => ?_, fun hn => ?_, fun p hp => ?_,
            receiverLaw_of_kept (by simp [ha]) (by simp) (.inl (by simp)) hs⟩
          · obtain rfl : a = p := by simpa using hp
            cases a <;> simpa [State.up] using hup
          · have hn' : sourceChoice s = none := by simpa using hn
            exact absurd hup (sourceChoice_eq_none hn' a)
          · have hp' : sourceChoice s = some p := by simpa using hp
            have hne : a ≠ p := fun e => hc (e ▸ hp')
            exact ⟨by rw [sourceChoice_withSelector, hp'], by simp [eq_otherPort_of_ne hne], by
              simpa [State.receiving] using hr⟩
        · next hr => exact sourceLaw_switchSource rfl (by simpa using hr)

/-- A law kept while the receiver leaves RECEIVING, but for the pending switch, which is then carried out. -/
theorem sourceLaw_carrySwitch (hup : ∀ p, (t.up p).state = (s.up p).state) (hset : t.settings = s.settings)
    (hsel : t.selector = s.selector) (hr : t.receiving = false) (hs : sourceLaw s) : sourceLaw (carrySwitch t) := by
  obtain ⟨h1, h2, h3, -⟩ := hs
  have hchoice := sourceChoice_of_kept hup (State.preferred_of_settings hset)
  unfold carrySwitch
  rw [hr, hsel]
  split
  · next p hp => exact sourceLaw_switchSource (hchoice.trans (h3 p hp).1) hr
  · next hp =>
    refine sourceLaw_of_choice ?_ fun h => ?_
    · rw [hsel, hchoice, ← h2 hp, ← hp]
    · rw [hr] at h
      exact nomatch h

theorem sourceLaw_startScan (hs : sourceLaw s) : sourceLaw (startScan s) := by
  have h := touches_startScan (.refl [.shown, .incoming, .receiver, .engine, .drift, .level, .causes] s) (by simp)
  refine sourceLaw_of_kept (fun p => by rw [h (.up p) (by simp)]) (State.preferred_of_settings (h .settings (by simp)))
    (h .selector (by simp)) ?_ (.inr ?_) hs
  · rw [startScan_receiver]
  · rw [startScan_receiver]

theorem sourceLaw_beginFrame (m : W16) (ha : s.selector.active.isSome = true) (hp : s.selector.toSwitch = none)
    (hready : s.receiver.ready = false) (hs : sourceLaw s) : sourceLaw (beginFrame m s) := by
  have h := touches_beginFrame m (.refl [.incoming, .receiver] s) (by simp)
  obtain ⟨h1, h2, -, -⟩ := hs
  have hsel : (beginFrame m s).selector = s.selector := h .selector (by simp)
  have hup : ∀ p, ((beginFrame m s).up p).state = (s.up p).state := fun p => by rw [h (.up p) (by simp)]
  refine ⟨fun p hp' => ?_, fun _ => ?_, fun p hp' => ?_, fun _ => ⟨hsel ▸ ha, hready⟩⟩
  · rw [hup]
    exact h1 p (hsel ▸ hp')
  · rw [hsel, sourceChoice_of_kept hup (State.preferred_of_settings (h .settings (by simp)))]
    exact h2 hp
  · rw [hsel, hp] at hp'
    exact nomatch hp'

/-- A FRAME-OPEN taken by the receiver: a frame begins, unless a pending switch is carried out instead. -/
theorem sourceLaw_receiveOpen (m : W16) (ha : s.selector.active.isSome = true) (hs : sourceLaw s) :
    sourceLaw (receiveOpen m s) := by
  have hkept : ∀ (c : Cause) (u : State), (∀ p, u.up p = s.up p) → u.settings = s.settings → u.selector = s.selector →
      s.selector.toSwitch = none → u.receiving = false → u.receiver.ready = false →
      sourceLaw (beginFrame m (raise c none u)) := by
    intro c u hup hset hsel hpend hr hready
    have hu : sourceLaw (raise c none u) := by
      have hcarry := sourceLaw_carrySwitch (t := raise c none u) (fun p => by rw [← hup p]; cases p <;> simp [raise, State.up])
        (by simp [raise, hset]) (by simp [raise, hsel]) (by simpa [State.receiving, raise] using hr) hs
      rwa [carrySwitch, show (raise c none u).selector.toSwitch = none by simp [raise, hsel, hpend]] at hcarry
    exact sourceLaw_beginFrame m (by simpa [raise, hsel] using ha) (by simp [raise, hsel, hpend])
      (by simpa [raise] using hready) hu
  have hpend : s.receiving = false → s.selector.toSwitch = none := by
    intro hr
    by_contra hp
    obtain ⟨p, hp⟩ := Option.ne_none_iff_exists'.mp hp
    rw [(hs.2.2.1 p hp).2.2] at hr
    exact nomatch hr
  unfold receiveOpen
  split
  · next hr =>
    obtain ⟨hup, hset, hsel⟩ := abandonFrame_kept s
    dsimp only
    split
    · refine sourceLaw_carrySwitch (fun p => ?_) (by simp [raise, hset]) (by simp [raise, hsel]) ?_ hs
      · rw [← hup p]
        cases p <;> simp [raise, State.up]
      · simpa [State.receiving, raise] using abandonFrame_receiving s
    · next hn =>
      refine hkept .frameSeq _ hup hset hsel ?_ (abandonFrame_receiving s) ?_
      · simpa [raise, hsel] using hn
      · rw [abandonFrame_receiver]
        exact (hs.receiverLaw hr).2
  · next hr =>
    have hr' : s.receiving = false := by simpa using hr
    split
    · exact hkept .frameDrop _ (fun p => by cases p <;> simp [State.up]) (by simp) (by simp) (hpend hr')
        (by simpa [State.receiving] using hr') (by simp)
    · next hready => exact sourceLaw_beginFrame m ha (hpend hr') (by simpa using hready) hs

theorem sourceLaw_restartValues (hs : sourceLaw s) : sourceLaw (restartValues s) := by
  have h := touches_clearAllCauses (touches_restartBlocks (.refl
    [.shown, .incoming, .receiver, .engine, .counts, .tiles, .query, .load, .drift, .causes] s) (by simp)) (by simp)
  refine sourceLaw_carrySwitch (fun p => by rw [h (.up p) (by simp)]) (h .settings (by simp)) (h .selector (by simp)) ?_ hs
  simp [State.receiving, clearAllCauses, restartBlocks, restartDrift, restartChain, restartEngine, restartFrames]

theorem sourceLaw_reset : sourceLaw State.reset := by
  have hchoice : sourceChoice State.reset = none := by decide
  exact sourceLaw_of_choice (by rw [hchoice]; rfl) fun h => nomatch h

/-- The active source, action by action. -/
theorem sourceLaw_act (h : Act W R ps s t) (hs : sourceLaw s) : sourceLaw t := by
  have hlaw := hs.receiverLaw
  by_cases hd : Part.up .ua ∈ ps ∨ Part.up .ub ∈ ps ∨ Part.selector ∈ ps ∨ Part.receiver ∈ ps ∨ Part.settings ∈ ps
  · cases h <;> simp only [List.mem_cons, reduceCtorEq, List.not_mem_nil, or_self, or_false, false_or] at hd
    case port p x hx hstate => exact sourceLaw_withUp hstate hs
    case settle x y hx hy => exact sourceLaw_settle hlaw
    case fall p hp =>
      rw [enterDown_of_not_down hp]
      refine sourceLaw_settle ?_
      have h := touches_abandonLoadOf p (touches_releaseEditFlag p (touches_dropWaiting p (touches_withUp p (s.up p).fallen (.refl
        [.up p, .load, .flags, .holder, .restart, .waiting, .causes] s) (by simp)) (by simp)) (by simp)) (by simp)
      have hrec := h .receiver (by simp)
      simp only [Part.same] at hrec
      exact receiverLaw_of_kept (by rw [show State.selector _ = _ from h .selector (by simp)]) (by rw [hrec])
        (.inl (by rw [hrec])) hlaw
    case enqueue p c hp hroom hw => exact sourceLaw_withUp rfl hs
    case dequeue p => exact sourceLaw_withUp rfl hs
    case receiveOpen m ha => exact sourceLaw_receiveOpen m ha hs
    case abandon c =>
      obtain ⟨hup, hset, hsel⟩ := abandonFrame_kept s
      refine sourceLaw_carrySwitch (fun p => ?_) (by simp [raise, hset]) (by simp [raise, hsel]) ?_ hs
      · rw [← hup p]
        cases p <;> simp [raise, State.up]
      · simpa [State.receiving, raise] using abandonFrame_receiving s
    case ready hsc => exact sourceLaw_carrySwitch (s := s) (fun p => by cases p <;> rfl) rfl rfl rfl hs
    case readyShown => exact sourceLaw_startScan (sourceLaw_carrySwitch (s := s) (fun p => by cases p <;> rfl) rfl rfl rfl hs)
    case startScan => exact sourceLaw_startScan hs
    case blankRestart => exact sourceLaw_startScan (sourceLaw_of_same (fun p => by cases p <;> rfl) rfl rfl rfl hs)
    case afterScan =>
      unfold afterScan
      dsimp only
      split
      · exact sourceLaw_startScan (sourceLaw_of_same (fun p => by cases p <;> rfl) rfl rfl rfl hs)
      · exact sourceLaw_of_same (fun p => by cases p <;> rfl) rfl rfl rfl hs
    case setting n v hn hv =>
      exact sourceLaw_of_kept (fun p => by cases p <;> rfl) (State.preferred_withSettings hn s) rfl rfl (.inl rfl) hs
    case preferred v hv => exact sourceLaw_settle (receiverLaw_of_kept rfl rfl (.inl rfl) hlaw)
    case restartValues => exact sourceLaw_restartValues hs
    case powerReset =>
      exact sourceLaw_of_same (s := State.reset) (fun p => by cases p <;> rfl) rfl rfl rfl sourceLaw_reset
  · simp only [not_or] at hd
    obtain ⟨hua, hub, hsel, hrec, hset⟩ := hd
    have ht := h.touches
    exact sourceLaw_of_same (fun p => by cases p with | ua => exact ht (.up .ua) hua | ub => exact ht (.up .ub) hub)
      (ht .settings hset) (ht .selector hsel) (ht .receiver hrec) hs

/-! ## The upstream ports -/

theorem portLaw_iff (s : State) : portLaw s ↔ ∀ p, (s.up p).lawful := Iff.rfl

theorem portLaw_of_up (h : ∀ p, t.up p = s.up p) (hs : portLaw s) : portLaw t := fun p => by
  rw [h]
  exact hs p

theorem portLaw_withUp {p : Up} {x : Upstream} (hx : x.lawful) (hs : portLaw s) : portLaw (s.withUp p x) := by
  rw [portLaw_iff]
  intro q
  rw [State.withUp_up]
  split
  · exact hx
  · exact hs q

theorem Upstream.lawful_fallen (u : Upstream) : u.fallen.lawful :=
  ⟨fun h => (nomatch h), fun _ => ⟨rfl, rfl, rfl, List.length_take_le 1 u.queue⟩⟩

theorem Upstream.lawful_dequeued {u : Upstream} (h : u.lawful) : { u with queue := u.queue.tail }.lawful := by
  obtain ⟨h1, h2⟩ := h
  refine ⟨h1, fun hd => ?_⟩
  obtain ⟨hframe, hopen, hrun, hlen⟩ := h2 hd
  refine ⟨hframe, hopen, hrun, ?_⟩
  rw [List.length_tail]
  exact (Nat.sub_le _ _).trans hlen

theorem portLaw_reset : portLaw State.reset := by
  intro p
  cases p <;> exact ⟨fun h => (nomatch h), fun _ => ⟨rfl, rfl, rfl, Nat.zero_le 1⟩⟩

/-- The upstream ports, action by action. -/
theorem portLaw_act (h : Act True R ps s t) (hs : portLaw s) : portLaw t := by
  by_cases hd : Part.up .ua ∈ ps ∨ Part.up .ub ∈ ps
  · cases h <;> simp only [List.mem_cons, reduceCtorEq, List.not_mem_nil, or_self, or_false, false_or] at hd
    case port p x hx hstate => exact portLaw_withUp (hx.lawful (hs p)) hs
    case settle x y hx hy =>
      have hup : ∀ p, (settle ((s.withUa x).withUb y)).up p = ((s.withUa x).withUb y).up p := fun p =>
        touches_settle (.refl _ _) (List.Subset.refl _) (.up p) (by simp)
      refine portLaw_of_up hup fun p => ?_
      cases p with
      | ua => exact hx.lawful (hs .ua)
      | ub => exact hy.lawful (hs .ub)
    case fall p hp =>
      rw [portLaw_iff]
      intro q
      by_cases hq : q = p
      · subst hq
        rw [enterDown_up_self hp]
        exact Upstream.lawful_fallen _
      · rw [enterDown_up_other hq]
        exact hs q
    case enqueue p c hp hroom hw =>
      obtain ⟨h1, -⟩ := hs p
      exact portLaw_withUp ⟨h1, fun hd => absurd hd (hp trivial)⟩ hs
    case dequeue p => exact portLaw_withUp (Upstream.lawful_dequeued (hs p)) hs
    case powerReset => exact portLaw_of_up (s := State.reset) (fun p => by cases p <;> rfl) portLaw_reset
  · rw [not_or] at hd
    exact portLaw_of_up (fun p => by
      cases p with
      | ua => exact h.touches (.up .ua) hd.1
      | ub => exact h.touches (.up .ub) hd.2) hs

end

/-- Settles O58: a step is a chain of actions (`step_keeps`), each of which keeps the two laws while the waiting requests
wait at ports that are not DOWN. -/
theorem sourceAndPortLawsAreKept : Obligations.SourceAndPortLawsAreKept := by
  unfold Obligations.SourceAndPortLawsAreKept
  intro s t h hw
  exact ⟨step_keeps False False False.elim False.elim (fun _ _ _ => sourceLaw_act) h,
    step_keeps True False (fun _ => hw) False.elim (fun _ _ _ => portLaw_act) h⟩

end Sys2Proof.Machine
end

section
/-! PROOFS. The laws of the counts and of the scan engine (R4, R10, R14, R46, R186, 1.3, 3.1) action by action, O59, and the
state right after reset, O60. -/

namespace Sys2Proof.Machine

section
variable {W R : Prop} {ps : List Part} {s t : State}

/-! ## Counts -/

/-- What `countLaw` says of a port's record. -/
def Upstream.counted (u : Upstream) : Prop := u.inRange ∧ u.queue.length ≤ 32

theorem countLaw_iff (s : State) : countLaw s ↔ (∀ p, (s.up p).counted ∧ waitingAt s p ≤ 4) ∧ roomLaw s ∧
    (s.restart = none → s.waiting = []) := by
  unfold countLaw
  refine and_congr (forall_congr' fun p => ?_) Iff.rfl
  unfold Upstream.counted Upstream.inRange
  tauto

theorem waitingAt_of_waiting (h : t.waiting = s.waiting) (p : Up) : waitingAt t p = waitingAt s p := by
  rw [waitingAt, waitingAt, h]

theorem countLaw_of_same (hup : ∀ p, t.up p = s.up p) (hrestart : t.restart = s.restart) (hwaiting : t.waiting = s.waiting)
    (hs : countLaw s) : countLaw t := by
  rw [countLaw_iff] at hs ⊢
  unfold roomLaw at *
  simp only [hup, hrestart, waitingAt_of_waiting hwaiting, hwaiting]
  exact hs

/-- Records of the same queues, their counts in range. -/
theorem countLaw_of_queues (hup : ∀ p, ((s.up p).inRange → (t.up p).inRange) ∧ (t.up p).queue = (s.up p).queue)
    (hrestart : t.restart = s.restart) (hwaiting : t.waiting = s.waiting) (hs : countLaw s) : countLaw t := by
  rw [countLaw_iff] at hs ⊢
  obtain ⟨h1, h2, h3⟩ := hs
  refine ⟨fun p => ⟨⟨(hup p).1 (h1 p).1.1, ?_⟩, ?_⟩, fun w hw hl => ?_, by rw [hrestart, hwaiting]; exact h3⟩
  · rw [(hup p).2]
    exact (h1 p).1.2
  · rw [waitingAt_of_waiting hwaiting]
    exact (h1 p).2
  · rw [(hup w.port).2]
    exact h2 w (hrestart ▸ hw) hl

/-- A queue replaced by one that leaves the room a waiting RESTART needs. -/
theorem countLaw_withQueue {p : Up} {l : List Cell} (hl : l.length ≤ 32)
    (hroom : l.length ≤ (s.up p).queue.length ∨ ∀ w, s.restart = some w → w.port ≠ p) (hs : countLaw s) :
    countLaw (s.withUp p { s.up p with queue := l }) := by
  have ht := touches_withUp p { s.up p with queue := l } (.refl [.up p] s) (by simp)
  have hrestart : (s.withUp p { s.up p with queue := l }).restart = s.restart := ht .restart (by simp)
  have hwaiting : (s.withUp p { s.up p with queue := l }).waiting = s.waiting := ht .waiting (by simp)
  rw [countLaw_iff] at hs ⊢
  obtain ⟨h1, h2, h3⟩ := hs
  refine ⟨fun q => ⟨?_, by rw [waitingAt_of_waiting hwaiting]; exact (h1 q).2⟩, fun w hw hlost => ?_,
    by rw [hrestart, hwaiting]; exact h3⟩
  · rw [State.withUp_up]
    split
    · exact ⟨(h1 p).1.1, hl⟩
    · exact (h1 q).1
  · rw [hrestart] at hw
    have hlt := h2 w hw hlost
    rw [State.withUp_up]
    split
    · next hp =>
      subst hp
      exact hroom.elim (fun h => h.trans_lt hlt) fun h => absurd rfl (h w hw)
    · exact hlt

theorem waitingAt_filter_le (f : Instr → Bool) (h : t.waiting = s.waiting.filter f) (p : Up) :
    waitingAt t p ≤ waitingAt s p := by
  rw [waitingAt, waitingAt, h]
  exact (List.filter_sublist.filter _).length_le

/-- A port's entry to DOWN: its runs are 0, of its queue one cell is left, and a RESTART waiting at it is answered no more. -/
theorem countLaw_enterDown {p : Up} (h : (s.up p).state ≠ .down) (hs : countLaw s) : countLaw (enterDown p s) := by
  rw [countLaw_iff] at hs ⊢
  obtain ⟨h1, h2, h3⟩ := hs
  refine ⟨fun q => ⟨?_, (waitingAt_filter_le _ (enterDown_waiting h) q).trans (h1 q).2⟩, fun w hw hlost => ?_, fun hn => ?_⟩
  · by_cases hq : q = p
    · subst hq
      obtain ⟨⟨⟨-, -, -, htallies⟩, hlen⟩, -⟩ := h1 q
      rw [enterDown_up_self h]
      refine ⟨⟨Nat.zero_le 8, Nat.zero_le 16, Nat.zero_le 3, htallies⟩, ?_⟩
      exact (List.length_take_le 1 _).trans (by decide)
    · rw [enterDown_up_other hq]
      exact (h1 q).1
  · rw [enterDown_restart h] at hw
    obtain ⟨v, hv, rfl⟩ := Option.map_eq_some_iff.mp hw
    split at hlost
    · exact nomatch hlost
    · next hp =>
      rw [if_neg hp, enterDown_up_other hp]
      exact h2 v hv hlost
  · rw [enterDown_restart h, Option.map_eq_none_iff] at hn
    rw [enterDown_waiting h, h3 hn]
    rfl

theorem waitingAt_hold {i : Instr} {p q : Up} (hi : Instr.requestPort i = some p) :
    waitingAt (s.withWaiting (s.waiting ++ [i])) q = waitingAt s q + if p = q then 1 else 0 := by
  simp only [waitingAt, State.withWaiting_fields, List.filter_append, List.length_append]
  split
  · next h => simp [h, hi]
  · next h => simp [h, hi]

theorem countLaw_reset : countLaw State.reset := by
  rw [countLaw_iff]
  refine ⟨fun p => ?_, fun w hw => (nomatch hw), fun _ => rfl⟩
  cases p <;> exact ⟨⟨by simp [Upstream.inRange, State.up, State.reset, Upstream.reset], Nat.zero_le 32⟩, Nat.zero_le 4⟩

/-- The counts, action by action. -/
theorem countLaw_act (h : Act W True ps s t) (hs : countLaw s) : countLaw t := by
  obtain ⟨h1, h2, h3⟩ := (countLaw_iff s).mp hs
  by_cases hd : Part.up .ua ∈ ps ∨ Part.up .ub ∈ ps ∨ Part.restart ∈ ps ∨ Part.waiting ∈ ps
  · cases h <;> simp only [List.mem_cons, reduceCtorEq, List.not_mem_nil, or_self, or_false, false_or] at hd
    case port p x hx hstate =>
      have ht := touches_withUp p x (.refl [.up p] s) (by simp)
      refine countLaw_of_queues (fun q => ?_) (ht .restart (by simp)) (ht .waiting (by simp)) hs
      rw [State.withUp_up]
      split
      · next hq => exact hq ▸ ⟨hx.inRange, hx.queue⟩
      · exact ⟨id, rfl⟩
    case settle x y hx hy =>
      have ht := touches_settle (.refl [.selector, .incoming, .receiver, .causes] ((s.withUa x).withUb y)) (by simp)
      refine countLaw_of_queues (s := s) (fun q => ?_) (ht .restart (by simp)) (ht .waiting (by simp)) hs
      rw [show (settle ((s.withUa x).withUb y)).up q = _ from ht (.up q) (by simp)]
      cases q with
      | ua => exact ⟨hx.inRange, hx.queue⟩
      | ub => exact ⟨hy.inRange, hy.queue⟩
    case fall p hp => exact countLaw_enterDown hp hs
    case enqueue p c hp hroom hw =>
      refine countLaw_withQueue ?_ (.inr hw) hs
      rw [List.length_append]
      exact hroom trivial
    case dequeue p =>
      have hle : (s.up p).queue.tail.length ≤ (s.up p).queue.length := by rw [List.length_tail]; exact Nat.sub_le _ _
      exact countLaw_withQueue (hle.trans (h1 p).1.2) (.inl hle) hs
    case waitRestart p tag hnone hroom =>
      refine (countLaw_iff _).mpr ⟨h1, fun w hw _ => ?_, fun hn => nomatch hn⟩
      obtain rfl : (⟨p, tag, false, false, 0⟩ : RestartWait) = w := Option.some.inj hw
      exact hroom
    case restart f hf =>
      refine (countLaw_iff _).mpr ⟨h1, fun w hw hlost => ?_, fun hn => h3 (Option.map_eq_none_iff.mp hn)⟩
      obtain ⟨v, hv, rfl⟩ := Option.map_eq_some_iff.mp hw
      obtain ⟨hport, hsame⟩ := hf v
      have := h2 v hv (hsame ▸ hlost)
      rw [← hport] at this
      exact this
    case hold i p hi hp hroom hwait =>
      refine (countLaw_iff _).mpr ⟨fun q => ⟨(h1 q).1, ?_⟩, h2, fun hn => ?_⟩
      · rw [waitingAt_hold hi]
        have := (h1 q).2
        split
        · next hq => subst hq; omega
        · exact this
      · rw [show s.restart = none from hn] at hwait
        exact nomatch hwait
    case endWait =>
      exact (countLaw_iff _).mpr ⟨fun q => ⟨(h1 q).1, Nat.zero_le 4⟩, fun w hw => (nomatch hw), fun _ => rfl⟩
    case powerReset => exact countLaw_of_same (s := State.reset) (fun p => by cases p <;> rfl) rfl rfl countLaw_reset
  · simp only [not_or] at hd
    obtain ⟨hua, hub, hrestart, hwaiting⟩ := hd
    have ht := h.touches
    exact countLaw_of_same (fun p => by cases p with | ua => exact ht (.up .ua) hua | ub => exact ht (.up .ub) hub)
      (ht .restart hrestart) (ht .waiting hwaiting) hs

/-! ## The scan engine -/

/-- A formed line changes the scan in flight alone. -/
theorem formIfNeeded_engine (s : State) : (formIfNeeded s).engine.scan.isSome = s.engine.scan.isSome ∧
    (formIfNeeded s).engine.repeatStart = s.engine.repeatStart := by
  unfold formIfNeeded
  split
  · next sc hsc =>
    split
    · simp [hsc]
    · exact ⟨rfl, rfl⟩
  · exact ⟨rfl, rfl⟩

/-- R47: a scan start puts a scan in flight and stops the repeat timer. -/
theorem startScan_engine (s : State) : (startScan s).engine.scan.isSome = true ∧ (startScan s).engine.repeatStart = none := by
  unfold startScan enterScanning
  obtain ⟨h1, h2⟩ := formIfNeeded_engine ((formLevel (slewAll (if s.receiver.ready then swap s else s))).withEngine
    { (formLevel (slewAll (if s.receiver.ready then swap s else s))).engine with
      scan := some ⟨bind (formLevel (slewAll (if s.receiver.ready then swap s else s))), Table.replicate 16 0,
        nextSent (bind (formLevel (slewAll (if s.receiver.ready then swap s else s)))) 0, 0, []⟩
      number := (formLevel (slewAll (if s.receiver.ready then swap s else s))).engine.number + 1
      repeatStart := none })
  exact ⟨h1, h2⟩

theorem engineLaw_startScan (s : State) : engineLaw (startScan s) := by
  obtain ⟨h1, h2⟩ := startScan_engine s
  refine ⟨?_, fun _ => h1⟩
  rw [h2]
  cases hsc : (startScan s).engine.scan with
  | none => rw [hsc] at h1; exact nomatch h1
  | some sc => rfl

/-- The engine kept, or changed in neither scan nor repeat timer, and no frame made READY. -/
theorem engineLaw_of_kept (hscan : t.engine.scan.isSome = s.engine.scan.isSome)
    (hrepeat : t.engine.repeatStart = s.engine.repeatStart) (hready : t.receiver.ready = true → s.receiver.ready = true)
    (hs : engineLaw s) : engineLaw t := by
  obtain ⟨h1, h2⟩ := hs
  refine ⟨?_, fun hr => hscan.trans (h2 (hready hr))⟩
  rw [hrepeat, h1, ← Option.not_isSome, ← Option.not_isSome, hscan]

theorem engineLaw_of_ready (hengine : t.engine = s.engine) (hready : t.receiver.ready = true → s.receiver.ready = true)
    (hs : engineLaw s) : engineLaw t :=
  engineLaw_of_kept (by rw [hengine]) (by rw [hengine]) hready hs

theorem carrySwitch_receiver (s : State) : (carrySwitch s).receiver = s.receiver :=
  touches_carrySwitch (.refl [.selector, .causes] s) (by simp) .receiver (by simp)

theorem carrySwitch_engine (s : State) : (carrySwitch s).engine = s.engine :=
  touches_carrySwitch (.refl [.selector, .causes] s) (by simp) .engine (by simp)

theorem settle_ready (s : State) : (settle s).receiver.ready = s.receiver.ready := by
  unfold settle
  split
  · split
    · rw [switchSource_receiver]
    · rfl
  · split
    · rw [switchSource_receiver, abandonFrame_receiver]
    · split
      · rfl
      · split
        · rfl
        · rw [switchSource_receiver]

theorem settle_engine (s : State) : (settle s).engine = s.engine :=
  touches_settle (.refl [.selector, .incoming, .receiver, .causes] s) (by simp) .engine (by simp)

/-- A FRAME-OPEN makes no frame READY. -/
theorem receiveOpen_ready {m : W16} (h : (receiveOpen m s).receiver.ready = true) : s.receiver.ready = true := by
  unfold receiveOpen at h
  split at h
  · dsimp only at h
    split at h
    · rw [carrySwitch_receiver] at h
      simpa [raise, abandonFrame_receiver] using h
    · simpa [beginFrame, raise, abandonFrame_receiver] using h
  · split at h
    · simp [beginFrame, raise] at h
    · exact h

theorem engineLaw_reset : engineLaw State.reset := ⟨rfl, fun h => nomatch h⟩

/-- The scan engine, action by action. -/
theorem engineLaw_act (h : Act W R ps s t) (hs : engineLaw s) : engineLaw t := by
  by_cases hd : Part.engine ∈ ps ∨ Part.receiver ∈ ps
  · cases h <;> simp only [List.mem_cons, reduceCtorEq, List.not_mem_nil, or_self, or_false, false_or] at hd
    case settle x y hx hy => exact engineLaw_of_ready (settle_engine _) (fun h => settle_ready _ ▸ h) hs
    case fall p hp =>
      have hrest := touches_abandonLoadOf p (touches_releaseEditFlag p (touches_dropWaiting p (touches_withUp p
        (s.up p).fallen (.refl [.up p, .load, .flags, .holder, .restart, .waiting, .causes] s) (by simp)) (by simp))
        (by simp)) (by simp) .receiver (by simp)
      simp only [Part.same] at hrest
      refine engineLaw_of_ready (touches_enterDown p (.refl _ s) (List.Subset.refl _) .engine (by simp)) (fun h => ?_) hs
      rw [enterDown_of_not_down hp, settle_ready, hrest] at h
      exact h
    case receiveOpen m ha =>
      exact engineLaw_of_ready (touches_receiveOpen m (.refl _ s) (List.Subset.refl _) .engine (by simp)) receiveOpen_ready hs
    case abandon c =>
      refine engineLaw_of_ready (touches_carrySwitch (touches_raise c none (touches_abandonFrame (.refl
        [.selector, .incoming, .receiver, .causes] s) (by simp)) (by simp)) (by simp) .engine (by simp)) (fun h => ?_) hs
      rw [carrySwitch_receiver] at h
      simpa [raise, abandonFrame_receiver] using h
    case ready hsc =>
      obtain ⟨h1, -⟩ := hs
      exact ⟨by rw [carrySwitch_engine]; exact h1, fun _ => by rw [carrySwitch_engine]; exact hsc⟩
    case readyShown => exact engineLaw_startScan _
    case startScan => exact engineLaw_startScan _
    case blankRestart => exact engineLaw_startScan _
    case afterScan =>
      unfold afterScan
      dsimp only
      split
      · exact engineLaw_startScan _
      · next hr => exact ⟨rfl, fun h => absurd h hr⟩
    case engine x hscan hrepeat => exact engineLaw_of_kept hscan hrepeat id hs
    case preferred v hv => exact engineLaw_of_ready (settle_engine _) (fun h => settle_ready _ ▸ h) hs
    case restartValues =>
      have hfresh : engineLaw (clearAllCauses (restartBlocks s)) := ⟨rfl, fun h => nomatch h⟩
      exact engineLaw_of_ready (carrySwitch_engine _) (fun h => carrySwitch_receiver _ ▸ h) hfresh
    case powerReset => exact ⟨rfl, fun h => nomatch h⟩
  · rw [not_or] at hd
    refine engineLaw_of_ready (h.touches .engine hd.1) (fun hr => ?_) hs
    rwa [show t.receiver = s.receiver from h.touches .receiver hd.2] at hr

end

/-- Settles O59: a step is a chain of actions (`step_keeps`), each of which keeps the two laws; for the first, a waiting
RESTART has the room for its reply by the law itself. -/
theorem countAndEngineLawsAreKept : Obligations.CountAndEngineLawsAreKept := by
  unfold Obligations.CountAndEngineLawsAreKept
  intro s t h
  exact ⟨fun hs => step_keeps False True False.elim (fun _ => ((countLaw_iff s).mp hs).2.1) (fun _ _ _ => countLaw_act) h hs,
    step_keeps False False False.elim False.elim (fun _ _ _ => engineLaw_act) h⟩

/-- Settles O60. -/
theorem resetStateIsLawful : Obligations.ResetStateIsLawful :=
  ⟨planLaw_reset, libraryLaw_reset, editFlagLaw_of_clear rfl rfl, loadLaw_of_none rfl, waitingLaw_of_waiting rfl,
    causeLaw_reset, settingLaw_reset, driftLaw_of_reset rfl, slotLaw_reset, tagLaw_of_none rfl, matchLaw_reset,
    imageLaw_reset, sourceLaw_reset, portLaw_reset, countLaw_reset, engineLaw_reset⟩

end Sys2Proof.Machine
end

section
/-! PROOFS. The step, the power reset, the raise and the events of a line: O1, O2, O3, O10,
O45. -/

namespace Sys2Proof.Machine

variable {s t : State}

/-- Settles O1. -/
theorem stepRunsFrontCommand : Obligations.StepRunsFrontCommand := by
  unfold Obligations.StepRunsFrontCommand
  intro s c rest h
  rw [step, h]

theorem clock_notMem_touchedParts {c : Instr} (h : c ≠ .powerReset) : Part.clock ∉ touchedParts c := by
  cases c with
  | crcFailedCell p => cases p <;> simp [touchedParts, Instr.requestPort, eventParts, downParts]
  | lossOfSignal p => cases p <;> simp [touchedParts, Instr.requestPort, eventParts, downParts]
  | foreignCell p => cases p <;> simp [touchedParts, Instr.requestPort, eventParts, cellParts]
  | symbolsReturn p => cases p <;> simp [touchedParts, Instr.requestPort, eventParts, lineParts]
  | powerReset => exact absurd rfl h
  | _ => simp [touchedParts, requestParts, Instr.requestPort, bodyParts, eventParts]

/-- The parts that the expiries of a millisecond may touch: neither the clock nor the queue of commands. -/
def dueParts : List Part := .up .ua :: .up .ub :: .waiting :: .noticePlaced :: requestParts

theorem touches_takeDue (s : State) : Touches dueParts s (takeDue s) := by
  have h1 : Touches dueParts s (trackerLimit .ub (trackerLimit .ua (deferredRestart s))) := touches_trackerLimit _
    (touches_trackerLimit _ (touches_deferredRestart (.refl _ s) (by simp [dueParts, requestParts])) (by simp [dueParts]))
    (by simp [dueParts])
  have h2 := touches_sourceLoss .ub (touches_sourceLoss .ua (touches_receiverLimit h1 (by simp [dueParts, requestParts]))
    (by simp [dueParts, requestParts])) (by simp [dueParts, requestParts])
  have h3 := touches_queryLimit .sense (touches_queryLimit .probe (touches_loadLimit (touches_holdLimit h2
    (by simp [dueParts, requestParts])) (by simp [dueParts, requestParts])) (by simp [dueParts, requestParts]))
    (by simp [dueParts, requestParts])
  exact touches_noticeOffer (touches_repeatLimit (touches_probesReached h3 (by simp [dueParts, requestParts])) (by simp [dueParts, requestParts]))
    (by simp [dueParts, requestParts])

/-- Settles O2: what a command touches is listed (`exec_touches`), and the clock is in no list but the power reset's. -/
theorem partTimeAdvancesByIdleSteps : Obligations.PartTimeAdvancesByIdleSteps := by
  unfold Obligations.PartTimeAdvancesByIdleSteps
  refine ⟨fun c s hc => ?_, fun s hs => ?_⟩
  · obtain ⟨t, ht, h⟩ := exec_touches c s
    exact ⟨t, ht, h .clock (clock_notMem_touchedParts hc)⟩
  · have h := touches_takeDue s
    have hclock : (takeDue s).clock = s.clock := h .clock (by simp [dueParts, requestParts])
    have hpending : (takeDue s).pending = s.pending := h .pending (by simp [dueParts, requestParts])
    refine ⟨tick s, by rw [step, hs], ?_, ?_⟩
    · simp [tick, advance, hclock]
    · simp [tick, advance, hpending, hs]

/-- Settles O3. -/
theorem powerResetSetsEveryBlock : Obligations.PowerResetSetsEveryBlock := by
  unfold Obligations.PowerResetSetsEveryBlock
  intro s
  have h : ∀ {α : Type} (x : α) (k : Fin 16), (Table.replicate 16 x).get k = x := fun x k => Table.get_replicate x k
  refine ⟨powerReset s, rfl, fun p => ?_, rfl, rfl, rfl, rfl, rfl, rfl, rfl, rfl, rfl, fun k => ⟨h _ k, h _ k, h _ k⟩, rfl,
    rfl, rfl, rfl, rfl, rfl, rfl, fun k => h _ k, fun k => h _ k, rfl, rfl, rfl, fun k i => ?_, fun k => h _ k, rfl, ?_,
    fun k => h _ k, rfl, rfl, rfl, ?_, ?_, ?_, rfl⟩
  · cases p <;> exact ⟨rfl, rfl, rfl, rfl, rfl, rfl, rfl, rfl, rfl, rfl, rfl⟩
  · rw [show (powerReset s).bands.get k = Table.replicate 4 Band.reset from h _ k, Table.get_replicate]
    rfl
  · rfl
  · rfl
  · rfl
  · rfl

/-- A command that brings a cell to an upstream port is that port's `upCell`. -/
theorem exec_of_upstreamCell {c : Instr} {p : Up} (h : upstreamCell c = some p) :
    ∃ act, ∀ s, exec c s = .next (upCell p act s) := by
  cases hr : requestOf c with
  | some r =>
    have hp : r.port = p := by
      have hport := requestOf_port hr
      cases c <;> simp_all [upstreamCell, Instr.requestPort]
    exact ⟨takeRequest c r, fun s => by rw [exec_request hr, arriveRequest, hp]⟩
  | none =>
    cases c <;> simp only [requestOf, reduceCtorEq] at hr <;>
      simp only [upstreamCell, Instr.requestPort, Option.some.injEq, reduceCtorEq] at h
    case foreignCell q c =>
      cases q with
      | up q => exact ⟨countForeign q, fun s => by cases Option.some.inj h; rfl⟩
      | d => exact nomatch h
    case frameOpen q n => exact h ▸ ⟨_, fun s => rfl⟩
    case pixelRun q line column pixels => exact h ▸ ⟨_, fun s => rfl⟩
    case frameClose q n => exact h ▸ ⟨_, fun s => rfl⟩

/-- A command that brings a cell to port D is its `dCell`. -/
theorem exec_of_chainCell {c : Instr} (h : chainCell c = true) : ∃ act, ∀ s, exec c s = .next (dCell act s) := by
  cases c <;> simp only [chainCell, reduceCtorEq] at h
  case foreignCell q c =>
    cases q with
    | up q => exact nomatch h
    | d => exact ⟨countStray, fun s => rfl⟩
  all_goals exact ⟨_, fun s => rfl⟩

/-- Settles O10. -/
theorem lineEventsChangeOneThing : Obligations.LineEventsChangeOneThing := by
  unfold Obligations.LineEventsChangeOneThing
  refine ⟨fun _ _ => rfl, fun _ _ => rfl, fun _ => rfl, fun _ => rfl, fun p c s hl hc => ?_, fun c s hl hc => ?_⟩
  · rcases hc with hc | rfl
    · obtain ⟨act, hact⟩ := exec_of_upstreamCell hc
      rw [hact, upCell, if_pos hl]
    · exact congrArg Host.Outcome.next (if_pos hl)
  · rcases hc with hc | rfl
    · obtain ⟨act, hact⟩ := exec_of_chainCell hc
      rw [hact, dCell, if_pos hl]
    · exact congrArg Host.Outcome.next (if_pos hl)

/-- Settles O45: the two branches of `CauseEntry.raised`. -/
theorem raiseCountsOrMakesPending : Obligations.RaiseCountsOrMakesPending := by
  unfold Obligations.RaiseCountsOrMakesPending
  intro c k s
  constructor
  · intro h
    rw [raise, CauseEntry.raised, if_neg (by simp [h])]
  · intro h
    rw [raise, CauseEntry.raised, if_pos h]
    rfl

end Sys2Proof.Machine
end

section
/-! PROOFS. CRC-failed cells and the entries to DOWN (R1, R2, R4, R7, R8, R74): O4, O5, O6. First what an upstream port's
entry to DOWN brings about, then what port D's does. -/

namespace Sys2Proof.Machine

variable {s t u : State}

/-! ## An upstream port -/

theorem sourceChoice_of_not_up {p : Up} (h : (s.up p).state ≠ .up) :
    sourceChoice s = if (s.up (otherPort p)).state = .up then some (otherPort p) else none := by
  have hother : otherPort (otherPort p) = p := by cases p <;> rfl
  unfold sourceChoice
  by_cases hp : s.preferred = p
  · rw [hp, if_neg h]
  · rw [eq_otherPort_of_ne hp, hother, if_neg h]

theorem settle_of_active_not_up {p : Up} (ha : s.selector.active = some p) (h : (s.up p).state ≠ .up) :
    settle s = switchSource (sourceChoice s) (abandonFrame s) := by
  rw [settle, ha]
  exact if_pos h

theorem switchSource_pending (x : Option Up) (s : State) :
    ((switchSource x s).causes.get Cause.sourceSwitch.number).pending = true := raise_pending _ _ _

theorem releaseEditFlag_pending {p : Up} (h : s.holder = some p) :
    ((releaseEditFlag p s).causes.get Cause.editReleased.number).pending = true := by
  rw [releaseEditFlag, if_pos h]
  exact raise_pending _ _ _

theorem abandonLoadOf_pending {p : Up} {l : Load} (hl : s.load = some l) (ho : l.owner = p) :
    ((abandonLoadOf p s).causes.get Cause.loadAbandoned.number).pending = true := by
  rw [abandonLoadOf, hl]
  dsimp only
  rw [if_pos ho]
  exact raise_pending _ _ _

/-- R7, R11, R93, R178, R186: what the entry to DOWN of a port that was ALIGNED or UP brings about. -/
theorem fallsDown_enterDown {p : Up} (h : (s.up p).state ≠ .down) : fallsDown p s (enterDown p s) := by
  have hself := enterDown_up_self h
  obtain ⟨hmine, hother⟩ := enterDown_flag h
  obtain ⟨hload, hnoload⟩ := enterDown_load h
  have hwait := enterDown_waiting h
  have hrestart := enterDown_restart h
  have hdef := enterDown_of_not_down h
  generalize hw : dropWaiting p (s.withUp p (s.up p).fallen) = w at hdef
  have hrel : Touches [.flags, .holder, .causes] w (releaseEditFlag p w) := touches_releaseEditFlag p (.refl _ w) (by simp)
  have habn := touches_abandonLoadOf p (.refl [.load, .causes] (releaseEditFlag p w)) (by simp)
  have hwd : w.holder = s.holder ∧ w.load = s.load ∧ w.selector = s.selector ∧ w.receiver = s.receiver ∧
      w.up p = (s.up p).fallen ∧ w.up (otherPort p) = s.up (otherPort p) := by
    simp [← hw, dropWaiting]
  obtain ⟨hwholder, hwload, hwsel, hwrec, hwup, hwother⟩ := hwd
  have hvload : (releaseEditFlag p w).load = s.load := (hrel .load (by simp)).trans hwload
  have hv : Touches [.flags, .holder, .load, .causes] w (abandonLoadOf p (releaseEditFlag p w)) :=
    touches_abandonLoadOf p (touches_releaseEditFlag p (.refl _ w) (by simp)) (by simp)
  generalize hvdef : abandonLoadOf p (releaseEditFlag p w) = v at hdef hv habn
  have hvsel : v.selector = s.selector := (hv .selector (by simp)).trans hwsel
  have hvrec : v.receiver = s.receiver := (hv .receiver (by simp)).trans hwrec
  have hvup : v.up p = (s.up p).fallen := (hv (.up p) (by simp)).trans hwup
  have hvother : v.up (otherPort p) = s.up (otherPort p) := (hv (.up (otherPort p)) (by simp)).trans hwother
  have hraised : ∀ c, (v.causes.get c).pending = true → ((enterDown p s).causes.get c).pending = true := fun c hc => by
    rw [hdef]
    exact (raised_settle (cs := [.sourceSwitch]) .refl (by simp)).pending hc
  refine ⟨by rw [hself]; rfl, by rw [hself]; rfl, by rw [hself]; rfl, by rw [hself]; rfl, by rw [hself]; rfl,
    by rw [hself]; rfl, by rw [hself]; rfl, fun hh => ?_, hother, fun l hl ho => ?_, fun l hl ho => ?_, hwait, hrestart,
    fun ha => ?_, ?_⟩
  · obtain ⟨hf, hn⟩ := hmine hh
    refine ⟨hf, hn, hraised _ ?_⟩
    rw [← hvdef]
    exact (raised_abandonLoadOf (cs := [.loadAbandoned]) p .refl (by simp)).pending
      (releaseEditFlag_pending (hwholder.trans hh))
  · refine ⟨hload l hl ho, hraised _ ?_⟩
    rw [← hvdef]
    exact abandonLoadOf_pending (hvload.trans hl) ho
  · refine hnoload fun l' hl' => ?_
    obtain rfl : l = l' := Option.some.inj (hl.symm.trans hl')
    exact ho
  · have hnot : (v.up p).state ≠ .up := by rw [hvup]; exact nofun
    rw [hdef, settle_of_active_not_up (hvsel ▸ ha) hnot, sourceChoice_of_not_up hnot, hvother]
    refine ⟨switchSource_selector _ _, ?_, switchSource_pending _ _⟩
    rw [switchSource_receiver, abandonFrame_receiver]
  · rw [hdef, settle_ready, hvrec]

theorem enterDown_of_down {p : Up} (h : (s.up p).state = .down) :
    enterDown p s = s.withUp p { s.up p with goodRun := 0, failedRun := 0 } := by
  rw [enterDown]
  exact if_pos h

/-- A state that differs from another in nothing that a port's entry to DOWN reads. -/
structure SameFall (p : Up) (s u : State) : Prop where
  touches : Touches [.up p, .causes] s u
  state : (u.up p).state = (s.up p).state
  queue : (u.up p).queue = (s.up p).queue

theorem fallsDown_of_sameFall {p : Up} (h : SameFall p s u) (hf : fallsDown p u t) : fallsDown p s t := by
  have hflags : u.flags = s.flags := h.touches .flags (by simp)
  have hholder : u.holder = s.holder := h.touches .holder (by simp)
  have hload : u.load = s.load := h.touches .load (by simp)
  have hwaiting : u.waiting = s.waiting := h.touches .waiting (by simp)
  have hrestart : u.restart = s.restart := h.touches .restart (by simp)
  have hsel : u.selector = s.selector := h.touches .selector (by simp)
  have hrec : u.receiver = s.receiver := h.touches .receiver (by simp)
  have hother : u.up (otherPort p) = s.up (otherPort p) := h.touches (.up (otherPort p)) (by cases p <;> simp [otherPort])
  unfold fallsDown at hf ⊢
  rw [h.queue, hflags, hholder, hload, hwaiting, hrestart, hsel, hrec, hother] at hf
  exact hf

/-- A further change of a fallen port's line condition leaves what its fall brought about. -/
theorem fallsDown_withUp {p : Up} {x : Upstream} (hx : x = { t.up p with lost := x.lost, goodRun := 0, failedRun := 0 })
    (h : fallsDown p s t) : fallsDown p s (t.withUp p x) := by
  unfold fallsDown at h ⊢
  rw [hx]
  simp only [State.withUp_up_self, State.withUp_fields]
  obtain ⟨h1, -, -, h2⟩ := h
  exact ⟨h1, trivial, trivial, h2⟩

/-- The record of a port on which a CRC-failed cell has been counted (R2, R4). -/
def Upstream.failedOnce (u : Upstream) : Upstream :=
  { u with crcFailed := tallied u.crcFailed, failedRun := min 16 (u.failedRun + 1), goodRun := 0 }

/-- The state in which a CRC-failed cell of a port has been counted, its failed run not yet judged. -/
def failedCell (p : Up) (s : State) : State := raise .linkErr none (s.withUp p (s.up p).failedOnce)

theorem failedCell_up (p : Up) (s : State) : (failedCell p s).up p = (s.up p).failedOnce := by
  simp [failedCell, raise]

theorem crcFailedUp_eq (p : Up) (s : State) : crcFailedUp p s =
    if (s.up p).failedRun < 15 then failedCell p s else enterDown p (failedCell p s) := by
  have hrun : ((failedCell p s).up p).failedRun = 16 ↔ ¬ (s.up p).failedRun < 15 := by
    rw [failedCell_up]
    simp only [Upstream.failedOnce]
    omega
  show (if ((failedCell p s).up p).failedRun = 16 then enterDown p (failedCell p s) else failedCell p s) = _
  simp only [hrun, ite_not]

theorem sameFall_failedCell (p : Up) (s : State) : SameFall p s (failedCell p s) :=
  ⟨touches_raise .linkErr none (touches_withUp p _ (.refl _ s) (by simp)) (by simp), by rw [failedCell_up]; rfl,
    by rw [failedCell_up]; rfl⟩

theorem raised_failedCell (p : Up) (s : State) : Raised [.linkErr] s.causes (failedCell p s).causes := by
  simp [failedCell]

/-- The tallies and the line condition of a port are kept at its entry to DOWN. -/
theorem enterDown_tallies (p : Up) (s : State) : ((enterDown p s).up p).state = .down ∧ ((enterDown p s).up p).goodRun = 0 ∧
    ((enterDown p s).up p).failedRun = 0 ∧ ((enterDown p s).up p).lost = (s.up p).lost ∧
    ((enterDown p s).up p).crcFailed = (s.up p).crcFailed ∧ ((enterDown p s).up p).foreign = (s.up p).foreign ∧
    ((enterDown p s).up p).unanswered = (s.up p).unanswered ∧ ((enterDown p s).up p).complete = (s.up p).complete := by
  by_cases h : (s.up p).state = .down
  · rw [enterDown_of_down h, State.withUp_up_self]
    exact ⟨h, rfl, rfl, rfl, rfl, rfl, rfl, rfl⟩
  · rw [enterDown_up_self h]
    exact ⟨rfl, rfl, rfl, rfl, rfl, rfl, rfl, rfl⟩

/-- The parts an upstream port's entry to DOWN touches, and the causes it raises. -/
theorem enterDown_scope (p : Up) (s : State) :
    Touches [.up p, .selector, .incoming, .receiver, .load, .flags, .holder, .restart, .waiting, .causes] s (enterDown p s) ∧
    Raised [.editReleased, .loadAbandoned, .sourceSwitch] s.causes (enterDown p s).causes :=
  ⟨touches_enterDown p (.refl _ s) (List.Subset.refl _), raised_enterDown p .refl (by simp) (by simp) (by simp)⟩

/-! ## Port D -/

/-- What port D's entry to DOWN brings about in the slots and the query unit, if it was ALIGNED (R8, R71, R74). -/
def fallsDownD (s t : State) : Prop :=
  t.query = { s.query with outstanding := t.query.outstanding, senseList := t.query.senseList } ∧
  (s.d.aligned = true → t.query.outstanding = none ∧
    (∀ k, (s.tile k).presence.identified = true →
      t.tile k = ⟨.absent, none, some (.instant s.clock)⟩ ∧ k ∉ t.query.senseList ∧
      (t.causes.get Cause.tileLost.number).pending = true) ∧
    ∀ k, (s.tile k).presence.identified = false → t.tile k = s.tile k) ∧
  (s.d.aligned = false → t.tiles = s.tiles ∧ t.query = s.query)

/-- What the loss of every tile leaves of one slot that held `x`. -/
def lostFrom (now : Nat) (x : Tile) (k : SlotId) (u : State) : Prop :=
  (x.presence.identified = true → u.tile k = ⟨.absent, none, some (.instant now)⟩ ∧ k ∉ u.query.senseList ∧
    (u.causes.get Cause.tileLost.number).pending = true) ∧
  (x.presence.identified = false → u.tile k = x)

theorem loseTile_clock (k : SlotId) (s : State) : (loseTile k s).clock = s.clock :=
  touches_loseTile k (.refl _ s) (List.Subset.refl _) .clock (by simp)

theorem loseTile_tile (k : SlotId) (s : State) (j : SlotId) :
    (loseTile k s).tile j = if k = j then ⟨.absent, none, some (.instant s.clock)⟩ else s.tile j := by
  rw [State.tile, loseTile_tiles, Table.get_set]
  rfl

theorem lostFrom_loseAllTiles (s : State) (k : SlotId) : lostFrom s.clock (s.tile k) k (loseAllTiles s) := by
  refine forSlots_each (Pre := fun k u => u.tile k = s.tile k ∧ u.clock = s.clock)
    (Post := fun k u => lostFrom s.clock (s.tile k) k u) ?_ ?_ ?_ (fun k => ⟨rfl, rfl⟩) k
  · rintro k u ⟨htile, hclock⟩
    split
    · next hi =>
      rw [htile] at hi
      refine ⟨fun _ => ⟨?_, ?_, raise_pending _ _ _⟩, fun hn => ?_⟩
      · rw [loseTile_tile, if_pos rfl, hclock]
      · rw [loseTile_query, loseIdentity_query]
        exact fun hm => absurd rfl (mem_filter_ne hm)
      · rw [hi] at hn
        exact nomatch hn
    · next hi =>
      rw [htile] at hi
      exact ⟨fun h => absurd h hi, fun _ => htile⟩
  · rintro j k u hne ⟨htile, hclock⟩
    split
    · exact ⟨by rw [loseTile_tile, if_neg hne, htile], by rw [loseTile_clock, hclock]⟩
    · exact ⟨htile, hclock⟩
  · rintro j k u hne ⟨hi, hn⟩
    split
    · refine ⟨fun h => ?_, fun h => by rw [loseTile_tile, if_neg hne, hn h]⟩
      obtain ⟨htile, hlist, hpend⟩ := hi h
      refine ⟨by rw [loseTile_tile, if_neg hne, htile], fun hm => hlist ?_, ?_⟩
      · rw [loseTile_query, loseIdentity_query] at hm
        exact List.mem_of_mem_filter hm
      · exact (raised_loseTile (cs := [.tileLost]) j .refl (by simp)).pending hpend
    · exact ⟨hi, hn⟩

/-- Nothing is outstanding in `u`, and only that and the list of senses may differ from the query unit `q`. -/
def queryCleared (q : QueryUnit) (u : State) : Prop :=
  u.query.outstanding = none ∧ u.query = { q with outstanding := u.query.outstanding, senseList := u.query.senseList }

theorem queryCleared_loseTile {q : QueryUnit} (k : SlotId) (h : queryCleared q u) : queryCleared q (loseTile k u) := by
  obtain ⟨hnone, hrest⟩ := h
  unfold queryCleared
  rw [loseTile_query, loseIdentity_query, hnone]
  refine ⟨rfl, ?_⟩
  rw [hrest]

theorem queryCleared_loseAllTiles {q : QueryUnit} (h : queryCleared q s) : queryCleared q (loseAllTiles s) :=
  forSlots_keeps (P := queryCleared q) (fun k u hu => by
    split
    · exact queryCleared_loseTile k hu
    · exact hu) h

theorem loseAllTiles_d (s : State) : (loseAllTiles s).d = s.d :=
  touches_loseAllTiles (.refl [.tiles, .query, .causes] s) (by simp) .d (by simp)

/-- The state in which port D is DOWN and the query dropped, the tiles not yet lost. -/
def cutOff (s : State) : State := dropQuery (s.withD { s.d with aligned := false, goodRun := 0, failedRun := 0 })

theorem enterDownD_of_aligned (h : s.d.aligned = true) : enterDownD s = loseAllTiles (cutOff s) := by
  rw [enterDownD]
  exact if_pos h

theorem enterDownD_of_down (h : s.d.aligned = false) :
    enterDownD s = s.withD { s.d with aligned := false, goodRun := 0, failedRun := 0 } := by
  rw [enterDownD]
  exact if_neg (by simp [h])

theorem enterDownD_d (s : State) : (enterDownD s).d = { s.d with aligned := false, goodRun := 0, failedRun := 0 } := by
  cases h : s.d.aligned with
  | true => rw [enterDownD_of_aligned h, loseAllTiles_d]; simp [cutOff, dropQuery]
  | false => rw [enterDownD_of_down h]; simp

theorem fallsDownD_enterDownD (s : State) : fallsDownD s (enterDownD s) := by
  cases ha : s.d.aligned with
  | true =>
    have hslots := lostFrom_loseAllTiles (cutOff s)
    have hcleared : queryCleared s.query (loseAllTiles (cutOff s)) := queryCleared_loseAllTiles ⟨rfl, rfl⟩
    obtain ⟨hnone, hquery⟩ := hcleared
    rw [enterDownD_of_aligned ha]
    generalize loseAllTiles (cutOff s) = t at *
    refine ⟨hquery, fun _ => ⟨hnone, fun k hk => (hslots k).1 hk, fun k hk => (hslots k).2 hk⟩, fun h => ?_⟩
    rw [ha] at h
    exact nomatch h
  | false =>
    rw [enterDownD_of_down ha]
    exact ⟨rfl, fun h => absurd h (by simp [ha]), fun _ => ⟨rfl, rfl⟩⟩

theorem enterDownD_scope (s : State) : Touches [.d, .tiles, .query, .causes] s (enterDownD s) ∧
    Raised [.tileLost] s.causes (enterDownD s).causes := by
  refine ⟨touches_enterDownD (.refl _ s) (List.Subset.refl _), ?_⟩
  unfold enterDownD
  dsimp only
  split <;> simp

/-- The state in which a CRC-failed cell of port D has been counted, its failed run not yet judged. -/
def failedCellD (s : State) : State :=
  raise .linkErr none (s.withD
    { s.d with crcFailed := tallied s.d.crcFailed, failedRun := min 16 (s.d.failedRun + 1), goodRun := 0 })

theorem failedCellD_d (s : State) : (failedCellD s).d =
    { s.d with crcFailed := tallied s.d.crcFailed, failedRun := min 16 (s.d.failedRun + 1), goodRun := 0 } := by
  simp [failedCellD, raise]

theorem crcFailedD_eq (s : State) : crcFailedD s =
    if s.d.failedRun < 15 then failedCellD s else enterDownD (failedCellD s) := by
  have hrun : (failedCellD s).d.failedRun = 16 ↔ ¬ s.d.failedRun < 15 := by
    rw [failedCellD_d]
    dsimp only
    omega
  show (if (failedCellD s).d.failedRun = 16 then enterDownD (failedCellD s) else failedCellD s) = _
  simp only [hrun, ite_not]

/-- A state that differs from another in nothing that port D's entry to DOWN reads. -/
theorem fallsDownD_of_touches (h : Touches [.d, .causes] s u) (ha : u.d.aligned = s.d.aligned) (hf : fallsDownD u t) :
    fallsDownD s t := by
  have htiles : u.tiles = s.tiles := h .tiles (by simp)
  have hquery : u.query = s.query := h .query (by simp)
  have hclock : u.clock = s.clock := h .clock (by simp)
  unfold fallsDownD at hf ⊢
  simp only [State.tile_of_tiles htiles, htiles, hquery, hclock, ha] at hf
  exact hf

/-! ## The commands -/

/-- Settles O4. -/
theorem failedCellIsTalliedAndRaised : Obligations.FailedCellIsTalliedAndRaised := by
  unfold Obligations.FailedCellIsTalliedAndRaised
  refine ⟨fun p s hl hf => ?_, fun s hl hf => ?_, fun p s hl hf => ?_, fun s hl hf => ?_⟩
  · have hexec : exec (.crcFailedCell (.up p)) s = .next (crcFailedUp p s) :=
      congrArg Host.Outcome.next (if_neg (by simp [State.signalLost, hl]))
    rw [hexec, crcFailedUp_eq, if_pos hf, failedCell, Upstream.failedOnce, Nat.min_eq_right (by omega)]
  · have hexec : exec (.crcFailedCell .d) s = .next (crcFailedD s) :=
      congrArg Host.Outcome.next (if_neg (by simp [State.signalLost, hl]))
    rw [hexec, crcFailedD_eq, if_pos hf, failedCellD, Nat.min_eq_right (by omega)]
  · have hexec : exec (.crcFailedCell (.up p)) s = .next (crcFailedUp p s) :=
      congrArg Host.Outcome.next (if_neg (by simp [State.signalLost, hl]))
    have hsame := sameFall_failedCell p s
    obtain ⟨htouch, hraised⟩ := enterDown_scope p (failedCell p s)
    obtain ⟨hstate, hgood, hfailed, -, hcrc, hforeign, hun, hcomplete⟩ := enterDown_tallies p (failedCell p s)
    rw [failedCell_up] at hcrc hforeign hun hcomplete
    refine ⟨_, by rw [hexec, crcFailedUp_eq, if_neg (by omega)], hstate, hgood, hfailed, hcrc, hforeign, hun, hcomplete,
      hraised.pending (raise_pending _ _ _), (hsame.touches.mono (by simp)).trans htouch, ?_, fun hne => ?_, fun he => ?_⟩
    · exact (((raised_failedCell p s).mono (by simp)).trans (hraised.mono (by simp))).raisesOnly
    · exact fallsDown_of_sameFall hsame (fallsDown_enterDown (hsame.state ▸ hne))
    · rw [enterDown_of_down (hsame.state.trans he), failedCell_up]
      cases p <;> rfl
  · have hexec : exec (.crcFailedCell .d) s = .next (crcFailedD s) :=
      congrArg Host.Outcome.next (if_neg (by simp [State.signalLost, hl]))
    obtain ⟨htouch, hraised⟩ := enterDownD_scope (failedCellD s)
    have hsame : Touches [.d, .causes] s (failedCellD s) := touches_raise _ _ (touches_withD _ (.refl _ s) (by simp)) (by simp)
    have hfall : fallsDownD s (enterDownD (failedCellD s)) :=
      fallsDownD_of_touches hsame (by rw [failedCellD_d]) (fallsDownD_enterDownD _)
    obtain ⟨hquery, hup, hdown⟩ := hfall
    refine ⟨_, by rw [hexec, crcFailedD_eq, if_neg (by omega)], by rw [enterDownD_d, failedCellD_d],
      hraised.pending (raise_pending _ _ _), (hsame.mono (by simp)).trans htouch, ?_, hquery, hup, hdown⟩
    exact (Raised.trans (by simp [failedCellD]) (hraised.mono (by simp))).raisesOnly

/-- The port is DOWN in `t`, reached from `s` by what its entry to DOWN, if it was not DOWN, brings about, and otherwise by
changes of its own record and of the causes alone. -/
structure FellTo (p : Up) (s t : State) : Prop where
  down : (t.up p).state = .down ∧ (t.up p).goodRun = 0 ∧ (t.up p).failedRun = 0
  falls : (s.up p).state ≠ .down → fallsDown p s t
  kept : (s.up p).state = .down → (t.up p).queue = (s.up p).queue ∧ Touches [.up p, .causes] s t
  touches : Touches [.up p, .selector, .incoming, .receiver, .load, .flags, .holder, .restart, .waiting, .causes] s t

theorem fellTo_enterDown {p : Up} (h : SameFall p s u) : FellTo p s (enterDown p u) where
  down := ⟨(enterDown_tallies p u).1, (enterDown_tallies p u).2.1, (enterDown_tallies p u).2.2.1⟩
  falls := fun hne => fallsDown_of_sameFall h (fallsDown_enterDown (h.state ▸ hne))
  kept := fun he => by
    rw [enterDown_of_down (h.state.trans he)]
    exact ⟨by rw [State.withUp_up_self]; exact h.queue, touches_withUp p _ h.touches (by simp)⟩
  touches := (h.touches.mono (by simp)).trans (enterDown_scope p u).1

/-- The line condition of the fallen port is set, its runs being 0. -/
theorem FellTo.lost {p : Up} (h : FellTo p s t) :
    FellTo p s (t.withUp p { t.up p with lost := true, goodRun := 0, failedRun := 0 }) where
  down := by rw [State.withUp_up_self]; exact ⟨h.down.1, rfl, rfl⟩
  falls := fun hne => fallsDown_withUp rfl (h.falls hne)
  kept := fun he => by
    rw [State.withUp_up_self]
    exact ⟨(h.kept he).1, touches_withUp p _ (h.kept he).2 (by simp)⟩
  touches := touches_withUp p _ h.touches (by simp)

theorem FellTo.ready {p : Up} (h : FellTo p s t) : t.receiver.ready = s.receiver.ready := by
  by_cases he : (s.up p).state = .down
  · rw [show t.receiver = s.receiver from (h.kept he).2 .receiver (by simp)]
  · obtain ⟨-, -, -, -, -, -, -, -, -, -, -, -, -, -, hready⟩ := h.falls he
    exact hready

/-- The record of a port that has lost its signal, `failed` CRC-failed cells being tallied. -/
def lostRecord (u v : Upstream) (failed : Nat) : Prop :=
  v.lost = true ∧ v.crcFailed = failed ∧ v.foreign = u.foreign ∧ v.unanswered = u.unanswered ∧ v.complete = u.complete

theorem crcFailedUp_record (p : Up) (s : State) : ((crcFailedUp p s).up p).crcFailed = tallied (s.up p).crcFailed ∧
    ((crcFailedUp p s).up p).foreign = (s.up p).foreign ∧ ((crcFailedUp p s).up p).unanswered = (s.up p).unanswered ∧
    ((crcFailedUp p s).up p).complete = (s.up p).complete := by
  rw [crcFailedUp_eq]
  split
  · rw [failedCell_up]
    exact ⟨rfl, rfl, rfl, rfl⟩
  · obtain ⟨-, -, -, -, hcrc, hforeign, hun, hcomplete⟩ := enterDown_tallies p (failedCell p s)
    rw [hcrc, hforeign, hun, hcomplete, failedCell_up]
    exact ⟨rfl, rfl, rfl, rfl⟩

/-- The part of a loss of signal that comes after a cell that may have been cut off. -/
def signalGone (p : Up) (s : State) : State := enterDown p (s.withUp p { s.up p with lost := true })

theorem fellTo_signalGone (p : Up) (s : State) : FellTo p s (signalGone p s) :=
  fellTo_enterDown ⟨touches_withUp p _ (.refl _ s) (by simp), by simp, by simp⟩

theorem fellTo_signalGone_crcFailedUp (p : Up) (s : State) : FellTo p s (signalGone p (crcFailedUp p s)) := by
  rw [crcFailedUp_eq]
  have hsame := sameFall_failedCell p s
  split
  · refine fellTo_enterDown ⟨touches_withUp p _ hsame.touches (by simp), ?_, ?_⟩
    · rw [State.withUp_up_self]
      exact hsame.state
    · rw [State.withUp_up_self]
      exact hsame.queue
  · have h := fellTo_enterDown hsame
    rw [signalGone, enterDown_of_down (by rw [State.withUp_up_self]; exact h.down.1), State.withUp_withUp,
      State.withUp_up_self]
    exact h.lost

theorem lostRecord_signalGone (p : Up) (s : State) : lostRecord (s.up p) ((signalGone p s).up p) (s.up p).crcFailed := by
  obtain ⟨-, -, -, hlost, hcrc, hforeign, hun, hcomplete⟩ := enterDown_tallies p (s.withUp p { s.up p with lost := true })
  rw [State.withUp_up_self] at hlost hcrc hforeign hun hcomplete
  exact ⟨hlost, hcrc, hforeign, hun, hcomplete⟩

theorem raised_signalGone (p : Up) (s : State) :
    Raised [.editReleased, .loadAbandoned, .sourceSwitch] s.causes (signalGone p s).causes :=
  raised_enterDown p (by simp) (by simp) (by simp) (by simp)

theorem raised_crcFailedUp (p : Up) (s : State) : Raised [.editReleased, .loadAbandoned, .sourceSwitch]
    (raise .linkErr none s).causes (crcFailedUp p s).causes := by
  have hc : (failedCell p s).causes = (raise .linkErr none s).causes := by simp [failedCell, raise]
  rw [crcFailedUp_eq, ← hc]
  split
  · exact .refl
  · exact (enterDown_scope p _).2

/-- What O5 says of the state that a loss of signal leaves, from what is known of its record, its fall and its causes. -/
theorem lossOfSignal_outcome {p : Up} {c : State} {failed : Nat} (hfell : FellTo p s t)
    (hrecord : lostRecord (s.up p) (t.up p) failed) (hc : Raised [.linkErr] s.causes c.causes)
    (hraised : Raised [.editReleased, .loadAbandoned, .sourceSwitch] c.causes t.causes) :
    (t.up p).lost = true ∧ (t.up p).state = .down ∧ (t.up p).goodRun = 0 ∧ (t.up p).failedRun = 0 ∧
    (t.up p).crcFailed = failed ∧ t.causes.get Cause.linkErr.number = c.causes.get Cause.linkErr.number ∧
    (t.up p).foreign = (s.up p).foreign ∧ (t.up p).unanswered = (s.up p).unanswered ∧
    (t.up p).complete = (s.up p).complete ∧ t.receiver.ready = s.receiver.ready ∧
    Touches [.up p, .selector, .incoming, .receiver, .load, .flags, .holder, .restart, .waiting, .causes] s t ∧
    raisesOnly [.linkErr, .editReleased, .loadAbandoned, .sourceSwitch] s t := by
  obtain ⟨hlost, hcrc, hforeign, hun, hcomplete⟩ := hrecord
  obtain ⟨hstate, hgood, hrun⟩ := hfell.down
  exact ⟨hlost, hstate, hgood, hrun, hcrc, hraised.get_of_notMem (by decide), hforeign, hun, hcomplete, hfell.ready,
    hfell.touches, ((hc.mono (by simp)).trans (hraised.mono (by simp))).raisesOnly⟩

/-- Settles O5: a cell cut off is counted first, which may itself take the port DOWN; then the port enters DOWN. -/
theorem lossOfSignalTakesUpstreamPortDown : Obligations.LossOfSignalTakesUpstreamPortDown := by
  unfold Obligations.LossOfSignalTakesUpstreamPortDown
  intro p b s
  have key : ∃ t, exec (.lossOfSignal (.up p) b) s = .next t ∧ FellTo p s t ∧
      lostRecord (s.up p) (t.up p)
        (if b = true ∧ (s.up p).lost = false then tallied (s.up p).crcFailed else (s.up p).crcFailed) ∧
      Raised [.editReleased, .loadAbandoned, .sourceSwitch]
        (if b = true ∧ (s.up p).lost = false then raise .linkErr none s else s).causes t.causes := by
    by_cases hcut : b = true ∧ (s.up p).lost = false
    · obtain ⟨hcrc, hforeign, hun, hcomplete⟩ := crcFailedUp_record p s
      have hrec := lostRecord_signalGone p (crcFailedUp p s)
      rw [if_pos hcut, if_pos hcut]
      refine ⟨signalGone p (crcFailedUp p s), ?_, fellTo_signalGone_crcFailedUp p s, ?_,
        (raised_crcFailedUp p s).trans (raised_signalGone p _)⟩
      · have hif : (b && !s.signalLost (.up p)) = true := by simp [State.signalLost, hcut.1, hcut.2]
        show Host.Outcome.next (portDown (.up p) (setLost (.up p) true (if (b && !s.signalLost (.up p)) = true then _ else _)))
          = _
        rw [if_pos hif]
        rfl
      · unfold lostRecord at hrec ⊢
        rw [hcrc, hforeign, hun, hcomplete] at hrec
        exact hrec
    · rw [if_neg hcut, if_neg hcut]
      refine ⟨signalGone p s, ?_, fellTo_signalGone p s, lostRecord_signalGone p s, raised_signalGone p s⟩
      have hif : ¬ (b && !s.signalLost (.up p)) = true := by simpa [State.signalLost] using hcut
      show Host.Outcome.next (portDown (.up p) (setLost (.up p) true (if (b && !s.signalLost (.up p)) = true then _ else _)))
        = _
      rw [if_neg hif]
      rfl
  obtain ⟨t, hexec, hfell, hrecord, hraised⟩ := key
  have hc : Raised [.linkErr] s.causes (if b = true ∧ (s.up p).lost = false then raise .linkErr none s else s).causes := by
    split <;> simp
  obtain ⟨h1, h2, h3, h4, h5, h6, h7, h8, h9, h10, h11, h12⟩ := lossOfSignal_outcome hfell hrecord hc hraised
  refine ⟨t, hexec, h1, h2, h3, h4, h5, h6, h7, h8, h9, h10, h11, h12, fun hne => ?_, fun he => ?_⟩
  · obtain ⟨-, -, -, hqueue, hframe, hrun, hopen, hmine, hother, hload, hnoload, hwaiting, hrestart, hsel, -⟩ :=
      hfell.falls hne
    exact ⟨hqueue, hframe, hrun, hopen, hmine, hother, hload, hnoload, hwaiting, hrestart, hsel⟩
  · obtain ⟨hqueue, htouch⟩ := hfell.kept he
    exact ⟨hqueue, htouch .flags (by simp), htouch .holder (by simp), htouch .load (by simp), htouch .selector (by simp),
      htouch .receiver (by simp), htouch .incoming (by simp), htouch .waiting (by simp), htouch .restart (by simp)⟩

theorem causes_failedCellD (s : State) : (failedCellD s).causes = (raise .linkErr none s).causes := by
  simp [failedCellD, raise]

/-- Port D's entry to DOWN after its line condition was set. -/
def signalGoneD (s : State) : State := enterDownD (s.withD { s.d with lost := true })

theorem signalGoneD_d (s : State) :
    (signalGoneD s).d = { s.d with lost := true, aligned := false, goodRun := 0, failedRun := 0 } := by
  rw [signalGoneD, enterDownD_d]
  simp

theorem fallsDownD_signalGoneD (s : State) : fallsDownD s (signalGoneD s) :=
  fallsDownD_of_touches (touches_withD _ (.refl [.d, .causes] s) (by simp)) (by simp) (fallsDownD_enterDownD _)

theorem signalGoneD_scope (s : State) : Touches [.d, .tiles, .query, .causes] s (signalGoneD s) ∧
    Raised [.tileLost] s.causes (signalGoneD s).causes := by
  obtain ⟨htouch, hraised⟩ := enterDownD_scope (s.withD { s.d with lost := true })
  exact ⟨(touches_withD _ (.refl _ s) (by simp)).trans htouch, hraised⟩

/-- Once port D is DOWN, a further loss of its signal takes nothing more. -/
theorem signalGoneD_of_down (h : s.d.aligned = false) :
    signalGoneD s = s.withD { s.d with lost := true, aligned := false, goodRun := 0, failedRun := 0 } := by
  rw [signalGoneD, enterDownD_of_down (by simp [h])]
  rfl

/-- A cell cut off at the loss of port D's signal is counted as CRC-failed; then port D enters DOWN. -/
theorem signalGoneD_crcFailedD (s : State) :
    (signalGoneD (crcFailedD s)).d = { s.d with
      lost := true, aligned := false, goodRun := 0, failedRun := 0, crcFailed := tallied s.d.crcFailed } ∧
    fallsDownD s (signalGoneD (crcFailedD s)) ∧
    Touches [.d, .tiles, .query, .causes] s (signalGoneD (crcFailedD s)) ∧
    Raised [.tileLost] (raise .linkErr none s).causes (signalGoneD (crcFailedD s)).causes := by
  have hsame : Touches [.d, .causes] s (failedCellD s) := touches_raise _ _ (touches_withD _ (.refl _ s) (by simp)) (by simp)
  have haligned : (failedCellD s).d.aligned = s.d.aligned := by rw [failedCellD_d]
  rw [crcFailedD_eq, ← causes_failedCellD]
  split
  · obtain ⟨htouch, hraised⟩ := signalGoneD_scope (failedCellD s)
    refine ⟨by rw [signalGoneD_d, failedCellD_d], ?_, (hsame.mono (by simp)).trans htouch, hraised⟩
    exact fallsDownD_of_touches hsame haligned (fallsDownD_signalGoneD _)
  · obtain ⟨htouch, hraised⟩ := enterDownD_scope (failedCellD s)
    have hdown : (enterDownD (failedCellD s)).d.aligned = false := by rw [enterDownD_d]
    have hfall := fallsDownD_of_touches hsame haligned (fallsDownD_enterDownD _)
    refine ⟨by rw [signalGoneD_d, enterDownD_d, failedCellD_d], ?_, ?_, ?_⟩
    · rw [signalGoneD_of_down hdown]
      exact hfall
    · rw [signalGoneD_of_down hdown]
      exact touches_withD _ ((hsame.mono (by simp)).trans htouch) (by simp)
    · rw [signalGoneD_of_down hdown]
      simpa using hraised

/-- Settles O6. -/
theorem lossOfSignalOnDLosesTiles : Obligations.LossOfSignalOnDLosesTiles := by
  unfold Obligations.LossOfSignalOnDLosesTiles
  intro b s
  have key : ∃ t, exec (.lossOfSignal .d b) s = .next t ∧
      t.d = { s.d with
        lost := true
        aligned := false
        goodRun := 0
        failedRun := 0
        crcFailed := if b = true ∧ s.d.lost = false then tallied s.d.crcFailed else s.d.crcFailed } ∧
      fallsDownD s t ∧ Touches [.d, .tiles, .query, .causes] s t ∧
      Raised [.tileLost] (if b = true ∧ s.d.lost = false then raise .linkErr none s else s).causes t.causes := by
    by_cases hcut : b = true ∧ s.d.lost = false
    · rw [if_pos hcut, if_pos hcut]
      refine ⟨signalGoneD (crcFailedD s), ?_, signalGoneD_crcFailedD s⟩
      have hif : (b && !s.signalLost .d) = true := by simp [State.signalLost, hcut.1, hcut.2]
      show Host.Outcome.next (portDown .d (setLost .d true (if (b && !s.signalLost .d) = true then _ else _))) = _
      rw [if_pos hif]
      rfl
    · rw [if_neg hcut, if_neg hcut]
      refine ⟨signalGoneD s, ?_, signalGoneD_d s, fallsDownD_signalGoneD s, signalGoneD_scope s⟩
      have hif : ¬ (b && !s.signalLost .d) = true := by simpa [State.signalLost] using hcut
      show Host.Outcome.next (portDown .d (setLost .d true (if (b && !s.signalLost .d) = true then _ else _))) = _
      rw [if_neg hif]
      rfl
  obtain ⟨t, hexec, hd, ⟨hquery, hup, hdown⟩, htouch, hraised⟩ := key
  have hc : Raised [.linkErr] s.causes (if b = true ∧ s.d.lost = false then raise .linkErr none s else s).causes := by
    split <;> simp
  exact ⟨t, hexec, hd, hraised.get_of_notMem (by decide), htouch,
    ((hc.mono (by simp)).trans (hraised.mono (by simp))).raisesOnly, hquery, hup, hdown⟩

end Sys2Proof.Machine
end

section
/-! PROOFS. The choice of the chain query unit and the start of the next cell (R63, R64), in the words of Safety; then the
good and the stray cells: O7, O8. -/

namespace Sys2Proof.Machine

variable {s t u v : State}

/-! ## The first slot of a kind -/

/-- A sweep finds the slot that passes when no lower slot does. -/
theorem find?_allSlots_eq_some {p : SlotId → Bool} {k : SlotId} :
    allSlots.find? p = some k ↔ p k = true ∧ ∀ j, j < k → p j = false := by
  have hsorted : allSlots.Pairwise (· < ·) := by decide
  constructor
  · intro h
    refine ⟨List.find?_some h, fun j hj => ?_⟩
    obtain ⟨-, before, after, hl, hbefore⟩ := List.find?_eq_some_iff_append.mp h
    have hmem := mem_allSlots j
    rw [hl] at hmem hsorted
    rcases List.mem_append.mp hmem with hm | hm
    · simpa using hbefore j hm
    · obtain ⟨-, hafter, -⟩ := List.pairwise_append.mp hsorted
      rcases List.mem_cons.mp hm with rfl | hm
      · exact absurd hj (lt_irrefl _)
      · exact absurd ((List.pairwise_cons.mp hafter).1 j hm) (not_lt_of_gt hj)
  · rintro ⟨hk, hlt⟩
    cases hf : allSlots.find? p with
    | none => exact absurd hk (List.find?_eq_none.mp hf k (mem_allSlots k))
    | some j =>
      have hj := List.find?_some hf
      obtain ⟨before, after, hl, hbefore⟩ := (List.find?_eq_some_iff_append.mp hf).2
      have hmem := mem_allSlots k
      rw [hl] at hmem hsorted
      rcases List.mem_append.mp hmem with hm | hm
      · exact absurd hk (by simpa using hbefore k hm)
      · rcases List.mem_cons.mp hm with rfl | hm
        · rfl
        · obtain ⟨-, hafter, -⟩ := List.pairwise_append.mp hsorted
          have hjk := (List.pairwise_cons.mp hafter).1 k hm
          rw [hlt j hjk] at hj
          exact nomatch hj

theorem find?_allSlots_eq_none {p : SlotId → Bool} : allSlots.find? p = none ↔ ∀ k, p k = false := by
  rw [List.find?_eq_none]
  exact ⟨fun h k => by simpa using h k (mem_allSlots k), fun h k _ => by simp [h k]⟩

theorem roundRobinSlot_eq (s : State) : roundRobinSlot s =
    (allSlots.find? fun i => (s.tile (s.query.pointer + i)).presence.identified).map fun i => s.query.pointer + i := by
  rw [roundRobinSlot, List.find?_map]
  rfl

/-! ## The next cell -/

/-- The query unit once a query that waits for the transmitter has reached `phase`. -/
def QueryUnit.begun (q : QueryUnit) (phase : QueryPhase) : QueryUnit :=
  match q.outstanding with
  | some r => if r.phase = .waiting then { q with outstanding := some { r with phase := phase } } else q
  | none => q

theorem QueryUnit.begun_of_not_waiting {q : QueryUnit} (h : ∀ r, q.outstanding = some r → r.phase ≠ .waiting)
    (phase : QueryPhase) : q.begun phase = q := by
  unfold QueryUnit.begun
  split
  · next r hr => rw [if_neg (h r hr)]
  · rfl

theorem QueryUnit.begun_of_waiting {q : QueryUnit} {r : Query} (hr : q.outstanding = some r) (hw : r.phase = .waiting)
    (phase : QueryPhase) : q.begun phase = { q with outstanding := some { r with phase := phase } } := by
  unfold QueryUnit.begun
  rw [hr]
  exact if_pos hw

theorem QueryUnit.begun_waiting (q : QueryUnit) : q.begun .waiting = q := by
  unfold QueryUnit.begun
  split
  · next r hr =>
    split
    · next hw =>
      have hsame : ({ r with phase := .waiting } : Query) = r := by rw [← hw]
      rw [hsame, ← hr]
    · rfl
  · rfl

theorem nextPhase_eq (s : State) : nextPhase s = if (s.d.tx.isSome || restartDue s) = true then .waiting else .sending := by
  unfold nextPhase restartDue
  cases s.d.tx with
  | some c => cases s.restart <;> rfl
  | none =>
    cases s.restart with
    | none => rfl
    | some w => cases w.scanEnded <;> rfl

theorem beginScanCell_query (s : State) : (beginScanCell s).query = s.query :=
  touches_beginScanCell (.refl [.d, .engine] s) (by simp) .query (by simp)

/-- R64: at a cell boundary a handed-over query begins, if nothing is being sent and no restart is due. -/
theorem beginNext_query (s : State) : (beginNext s).query = s.query.begun (nextPhase s) := by
  rw [nextPhase_eq, beginNext]
  split
  · rw [QueryUnit.begun_waiting]
  · split
    · next q hq =>
      split
      · next hw => simp [transmit, QueryUnit.begun_of_waiting hq hw]
      · next hw =>
        rw [beginScanCell_query, QueryUnit.begun_of_not_waiting]
        intro r hr
        rw [Option.some.inj (hr.symm.trans hq)]
        exact hw
    · next hn =>
      rw [beginScanCell_query, QueryUnit.begun_of_not_waiting]
      intro r hr
      rw [hn] at hr
      exact nomatch hr

/-- Of the scan engine a cell boundary takes one formed cell at most. -/
theorem begins_beginScanCell (h : s.d.tx = none) : begins s (beginScanCell s) := by
  have hbusy : s.d.tx.isSome = true → (beginScanCell s).d.tx = s.d.tx := fun hb => by rw [h] at hb; exact nomatch hb
  refine ⟨?_, hbusy, ?_⟩
  · unfold beginScanCell
    split
    · split
      · simp [transmit]
      · split <;> simp [transmit]
    · rfl
  · unfold beginScanCell
    split
    · next sc hsc =>
      split
      · next c rest hc => exact .inr ⟨sc, c, rest, hsc, hc, by simp [transmit], by simp [transmit]⟩
      · split
        · exact .inl (by simp [transmit])
        · exact .inl rfl
    · exact .inl rfl

theorem begins_of_same (hd : t.d = s.d) (he : t.engine = s.engine) : begins s t :=
  ⟨by rw [hd], fun _ => by rw [hd], .inl he⟩

theorem begins_beginNext (s : State) : begins s (beginNext s) := by
  unfold beginNext
  split
  · exact begins_of_same rfl rfl
  · next hfree =>
    have htx : s.d.tx = none := by
      simp only [Bool.or_eq_true, not_or, Bool.not_eq_true, Option.isSome_eq_false_iff, Option.isNone_iff_eq_none] at hfree
      exact hfree.1
    split
    · split
      · exact ⟨by simp [transmit], fun hb => by rw [htx] at hb; exact (nomatch hb), .inl (by simp [transmit])⟩
      · exact begins_beginScanCell htx
    · exact begins_beginScanCell htx

/-- `begins` looks at port D and the engine alone. -/
theorem begins_congr (hd : u.d = s.d) (he : u.engine = s.engine) (h : begins u t) : begins s t := by
  unfold begins at h ⊢
  rw [hd, he] at h
  exact h

theorem chooseQuery_same (senses : Bool) (s : State) : Touches [.query] s (chooseQuery senses s) :=
  touches_chooseQuery senses (.refl _ s) (by simp)

theorem begins_chooseAndBegin (s : State) : begins s (chooseAndBegin s) := by
  have h := chooseQuery_same s.engine.scan.isNone s
  exact begins_congr (h .d (by simp)) (h .engine (by simp)) (begins_beginNext _)

/-! ## The choice -/

theorem nextPhase_congr (htx : t.d.tx = s.d.tx) (hr : t.restart = s.restart) : nextPhase t = nextPhase s := by
  rw [nextPhase, nextPhase, htx, hr]

theorem handOver_query (kind : QueryKind) (k : SlotId) (s : State) (phase : QueryPhase) :
    (handOver kind k s).query.begun phase = { s.query with
      outstanding := some ⟨kind, k, s.query.tagCounter + 1, phase⟩, tagCounter := s.query.tagCounter + 1 } := by
  simp [handOver, QueryUnit.begun]

/-- R63: the query unit a choice leaves, its cell in the phase it then has. -/
theorem choosesNext_chooseQuery (senses : Bool) (phase : QueryPhase)
    (hw : ∀ q, s.query.outstanding = some q → q.phase ≠ .waiting) :
    choosesNext senses phase s ((chooseQuery senses s).query.begun phase) := by
  have hkeep : s.query.begun phase = s.query := QueryUnit.begun_of_not_waiting hw phase
  refine ⟨fun h => ?_, fun ha ho => ?_⟩
  · have hif : (!s.d.aligned || s.query.outstanding.isSome) = true := by simpa using h
    rw [chooseQuery, if_pos hif, hkeep]
  · have hif : ¬ (!s.d.aligned || s.query.outstanding.isSome) = true := by simp [ha, ho]
    have hround : ∀ (x : QueryUnit), x.outstanding = none → x.begun phase = x := fun x hx =>
      QueryUnit.begun_of_not_waiting (fun r hr => by rw [hx] at hr; exact nomatch hr) phase
    rw [chooseQuery, if_neg hif]
    refine ⟨fun k hk hlt => ?_, fun hnone => ?_⟩
    · rw [find?_allSlots_eq_some.mpr ⟨hk, hlt⟩]
      exact handOver_query _ _ _ _
    · rw [find?_allSlots_eq_none.mpr hnone]
      refine ⟨fun hs => by simp [hs, hkeep], fun hs => ?_⟩
      simp only [hs, if_true]
      unfold chooseSense
      refine ⟨fun k rest hl => ?_, fun hl hr => ?_, fun hl hr => ⟨fun i hi hlt => ?_, fun hno => ?_⟩⟩
      · rw [hl]
        simp [handOver_query]
      · rw [hl]
        simp [hr, hkeep]
      · rw [hl]
        have hfind : roundRobinSlot s = some (s.query.pointer + i) := by
          rw [roundRobinSlot_eq, find?_allSlots_eq_some.mpr ⟨hi, fun j hj => by simpa using hlt j hj⟩]
          rfl
        simp [hl, hr, hfind, handOver_query]
      · rw [hl]
        have hfind : roundRobinSlot s = none := by
          rw [roundRobinSlot_eq, find?_allSlots_eq_none.mpr fun i => by simpa using hno _]
          rfl
        simp [hl, hr, hfind, hround, ho]

/-- What a choice reads of a state: port D's state, the slots, the clock, the settings and the query unit. -/
theorem choosesNext_congr {senses : Bool} {phase : QueryPhase} {q : QueryUnit} (ha : t.d.aligned = s.d.aligned)
    (htiles : t.tiles = s.tiles) (hclock : t.clock = s.clock) (hset : t.settings = s.settings) (hquery : t.query = s.query)
    (h : choosesNext senses phase s q) : choosesNext senses phase t q := by
  have hdue : ∀ k, probeIsDue t k = probeIsDue s k := fun k => by
    have hdue : ∀ d, dueTime t d = dueTime s d := fun d => by
      cases d <;> simp only [dueTime, State.settingNat, State.setting, hset]
    simp only [probeIsDue, State.tile_of_tiles htiles, hclock, hdue]
  unfold choosesNext at h ⊢
  simp only [ha, hdue, State.tile_of_tiles htiles, hquery]
  exact h

/-- A choice made on a state `v` that agrees with `s` in what decides phases and senses. -/
theorem choosesAfter_chooseAndBegin (hscan : v.engine.scan.isNone = s.engine.scan.isNone) (htx : v.d.tx = s.d.tx)
    (hr : v.restart = s.restart) : choosesAfter s v.query (chooseAndBegin v) := by
  intro hw
  have hc := chooseQuery_same v.engine.scan.isNone v
  have hctx : (chooseQuery v.engine.scan.isNone v).d.tx = v.d.tx := by rw [show State.d _ = _ from hc .d (by simp)]
  have hquery : (chooseAndBegin v).query = (chooseQuery v.engine.scan.isNone v).query.begun (nextPhase s) := by
    rw [chooseAndBegin, beginNext_query, nextPhase_congr (hctx.trans htx) ((hc .restart (by simp)).trans hr)]
  have htouch := touches_chooseAndBegin (.refl [.d, .engine, .query] v) (by simp)
  rw [hquery, ← hscan]
  have halign : (chooseAndBegin v).d.aligned = v.d.aligned := by rw [(begins_chooseAndBegin v).1]
  exact choosesNext_congr halign (htouch .tiles (by simp)) (htouch .clock (by simp)) (htouch .settings (by simp)) rfl
    (choosesNext_chooseQuery _ _ hw)

/-! ## Good and stray cells -/

/-- R74: on D's entry to ALIGNED every ABSENT slot's probe becomes due, and no other slot changes. -/
theorem probeAllAbsent_tile (s : State) (k : SlotId) :
    ((s.tile k).presence = .absent → (probeAllAbsent s).tile k = { s.tile k with due := some (.instant s.clock) }) ∧
    ((s.tile k).presence ≠ .absent → (probeAllAbsent s).tile k = s.tile k) := by
  have hother : ∀ (j k : SlotId) (u : State), j ≠ k →
      (if (u.tile j).presence = .absent then u.withTile j { u.tile j with due := some (.instant u.clock) } else u).tile k =
        u.tile k ∧
      (if (u.tile j).presence = .absent then u.withTile j { u.tile j with due := some (.instant u.clock) } else u).clock =
        u.clock := by
    intro j k u hne
    split
    · exact ⟨by rw [State.tile_withTile, if_neg hne], by simp [State.withTile]⟩
    · exact ⟨rfl, rfl⟩
  refine forSlots_each (Pre := fun k u => u.tile k = s.tile k ∧ u.clock = s.clock)
    (Post := fun k u =>
      ((s.tile k).presence = .absent → u.tile k = { s.tile k with due := some (.instant s.clock) }) ∧
      ((s.tile k).presence ≠ .absent → u.tile k = s.tile k)) ?_ ?_ ?_ (fun k => ⟨rfl, rfl⟩) k
  · rintro k u ⟨htile, hclock⟩
    rw [htile, hclock]
    split
    · next ha => exact ⟨fun _ => by rw [State.tile_withTile, if_pos rfl], fun hn => absurd ha hn⟩
    · next ha => exact ⟨fun h => absurd h ha, fun _ => htile⟩
  · rintro j k u hne ⟨htile, hclock⟩
    obtain ⟨h1, h2⟩ := hother j k u hne
    exact ⟨h1.trans htile, h2.trans hclock⟩
  · rintro j k u hne hpost
    rw [(hother j k u hne).1]
    exact hpost

theorem touches_probeAllAbsent_self (s : State) : Touches [.tiles] s (probeAllAbsent s) :=
  touches_probeAllAbsent (.refl _ s) (by simp)

/-- A cell on a DOWN port is counted and otherwise discarded (R3). -/
theorem upCell_down {p : Up} (act : State → State) (hl : (s.up p).lost = false) (hd : (s.up p).state = .down) :
    upCell p act s = countGoodUp p s := by
  simp [upCell, hl, State.takesCells, hd]

theorem dCell_down (act : State → State) (hl : s.d.lost = false) (hd : s.d.aligned = false) :
    dCell act s = countGoodD s := by
  simp [dCell, hl, hd]

/-- Settles O7. -/
theorem eighthGoodCellAlignsPort : Obligations.EighthGoodCellAlignsPort := by
  unfold Obligations.EighthGoodCellAlignsPort
  refine ⟨fun p c s hc hl hd => ?_, fun c s hc hl hd => ?_⟩
  · obtain ⟨act, hexec⟩ := exec_of_upstreamCell hc
    rw [hexec, upCell_down act hl hd]
    refine ⟨fun hg => ?_, fun hg => ?_⟩
    · have hmin : min Config.goodRunMax ((s.up p).goodRun + 1) = (s.up p).goodRun + 1 :=
        Nat.min_eq_right (by simp only [Config.goodRunMax]; omega)
      have hne : (s.up p).goodRun + 1 ≠ Config.goodRunMax := by simp only [Config.goodRunMax]; omega
      rw [countGoodUp]
      simp only [hmin, hne, and_false, if_false]
    · have hmin : min Config.goodRunMax ((s.up p).goodRun + 1) = 8 := by rw [hg]; rfl
      have hcount : countGoodUp p s = settle (s.withUp p
          { s.up p with goodRun := 8, failedRun := 0, state := .aligned, completeRun := 0, openFrame := none }) := by
        rw [countGoodUp]
        dsimp only
        rw [hmin, if_pos ⟨hd, rfl⟩]
      have htouch := touches_settle (touches_withUp p { s.up p with
        goodRun := 8, failedRun := 0, state := .aligned, completeRun := 0, openFrame := none }
        (.refl [.up p, .selector, .incoming, .receiver, .causes] s) (by simp)) (by simp)
      have hup := touches_settle (.refl [.selector, .incoming, .receiver, .causes] (s.withUp p { s.up p with
        goodRun := 8, failedRun := 0, state := .aligned, completeRun := 0, openFrame := none })) (by simp) (.up p) (by simp)
      refine ⟨_, rfl, ?_, ?_, ?_⟩
      · rw [hcount]
        exact hup.trans (State.withUp_up_self _ _ _)
      · rw [hcount]
        exact htouch
      · rw [hcount]
        exact (raised_settle (by simp) (by simp)).raisesOnly
  · obtain ⟨act, hexec⟩ := exec_of_chainCell hc
    rw [hexec, dCell_down act hl hd]
    refine ⟨fun hg => ?_, fun hg => ?_⟩
    · have hmin : min Config.goodRunMax (s.d.goodRun + 1) = s.d.goodRun + 1 :=
        Nat.min_eq_right (by simp only [Config.goodRunMax]; omega)
      have hne : (s.d.goodRun + 1 == Config.goodRunMax) = false :=
        beq_false_of_ne (by simp only [Config.goodRunMax]; omega)
      rw [countGoodD]
      simp only [hmin, hne, Bool.and_false, Bool.false_eq_true, if_false]
    · have hmin : min Config.goodRunMax (s.d.goodRun + 1) = 8 := by rw [hg]; rfl
      have hcount : countGoodD s = chooseAndBegin (probeAllAbsent
          (s.withD { s.d with aligned := true, goodRun := 8, failedRun := 0 })) := by
        rw [countGoodD]
        dsimp only
        rw [hmin, hd, if_pos (by rfl)]
        exact congrArg (fun x => chooseAndBegin (probeAllAbsent x)) rfl
      rw [hcount]
      generalize hw : s.withD { s.d with aligned := true, goodRun := 8, failedRun := 0 } = w
      have hws : Touches [.d] s w := hw ▸ touches_withD _ (.refl _ s) (by simp)
      have hv := touches_probeAllAbsent_self w
      have htx : (probeAllAbsent w).d.tx = s.d.tx := by
        rw [show (probeAllAbsent w).d = w.d from hv .d (by simp), ← hw]
        simp
      have hengine : (probeAllAbsent w).engine = s.engine := (hv .engine (by simp)).trans (hws .engine (by simp))
      have htiles : (chooseAndBegin (probeAllAbsent w)).tiles = (probeAllAbsent w).tiles :=
        touches_chooseAndBegin (.refl [.d, .engine, .query] _) (by simp) .tiles (by simp)
      have hwtile := State.tile_of_tiles (hws .tiles (by simp))
      have hclock : w.clock = s.clock := hws .clock (by simp)
      refine ⟨_, rfl, ?_, ?_, ?_, fun k hk => ?_, fun k hk => ?_⟩
      · exact touches_chooseAndBegin ((hws.mono (by simp)).then hv (by simp)) (by simp)
      · exact begins_congr (hv .d (by simp)) (hv .engine (by simp)) (begins_chooseAndBegin _)
      · have hquery : (probeAllAbsent w).query = s.query := (hv .query (by simp)).trans (hws .query (by simp))
        rw [← hquery]
        exact choosesAfter_chooseAndBegin (by rw [hengine]) htx ((hv .restart (by simp)).trans (hws .restart (by simp)))
      · rw [State.tile_of_tiles htiles, (probeAllAbsent_tile w k).1 (by rw [hwtile]; exact hk), hwtile, hclock]
      · rw [State.tile_of_tiles htiles, (probeAllAbsent_tile w k).2 (by rw [hwtile]; exact hk), hwtile]

theorem answeredQuery_eq_none {kind : QueryKind} {slot : Byte} {tag : W16}
    (h : ∀ q, s.query.outstanding = some q → q.kind ≠ kind ∨ q.slot.val ≠ slot.toNat ∨ q.tag ≠ tag ∨ q.phase = .waiting) :
    answeredQuery s kind slot tag = none := by
  unfold answeredQuery
  split
  · next q hq =>
    rw [if_neg]
    rintro ⟨h1, h2, h3, h4⟩
    rcases h q hq with hn | hn | hn | hn
    · exact hn h1
    · exact hn h2
    · exact hn h3
    · exact h4 hn
  · rfl

theorem heardD_query (s : State) : s.heardD.query = s.query := by simp [State.heardD]

theorem countStray_heardD (s : State) : countStray s.heardD = s.heardD.withD { s.heardD.d with stray := tallied s.d.stray } := by
  simp [countStray, State.heardD, tallyUp, tallied, Config.tallyMax]

/-- Settles O8. -/
theorem foreignAndStrayCellsAreTallied : Obligations.ForeignAndStrayCellsAreTallied := by
  unfold Obligations.ForeignAndStrayCellsAreTallied
  refine ⟨fun p c s hl => ?_, fun c s hl => ?_, fun tag slot serial w h depth hours s hl hq => ?_,
    fun tag slot short temperature hours s hl hq => ?_⟩
  · show Host.Outcome.next (upCell p (countForeign p) s) = _
    rw [upCell_listens _ hl]
    simp [countForeign, tallyUp, tallied, Config.tallyMax]
  · show Host.Outcome.next (dCell countStray s) = _
    rw [dCell_listens _ hl, countStray_heardD]
  · show Host.Outcome.next (dCell (takeIdent tag slot ⟨serial, w, h, depth, hours⟩) s) = _
    have hnone : answeredQuery s.heardD .probe slot tag = none := by
      refine answeredQuery_eq_none fun q ho => ?_
      rcases hq q (heardD_query s ▸ ho) with hk | hk
      · exact .inl (by rw [hk]; exact nofun)
      · exact .inr hk
    rw [dCell_listens _ hl, takeIdent, hnone]
    exact congrArg _ (countStray_heardD s)
  · show Host.Outcome.next (dCell (takeSenseReply tag slot short temperature hours) s) = _
    have hnone : answeredQuery s.heardD .sense slot tag = none := by
      refine answeredQuery_eq_none fun q ho => ?_
      rcases hq q (heardD_query s ▸ ho) with hk | hk
      · exact .inl (by rw [hk]; exact nofun)
      · exact .inr hk
    rw [dCell_listens _ hl, takeSenseReply, hnone]
    exact congrArg _ (countStray_heardD s)

end Sys2Proof.Machine
end

section
/-! PROOFS. Trackers and the active source (R5, R6, R11, R12, R37): O11, O12, O13, O14. -/

namespace Sys2Proof.Machine

variable {s t u : State}

/-! ## Limits -/

theorem expired_eq_true_iff (n : SettingId) (since : Nat) :
    s.expired n since = true ↔ (s.setting n).toNat ≤ s.clock - since := decide_eq_true_iff

theorem expired_iff {n : SettingId} {since : Nat} (hs : since ≤ s.clock) (hn : 0 ≤ s.setting n) :
    s.expired n since = true ↔ s.setting n ≤ (s.clock - since : Int) := by
  rw [expired_eq_true_iff]
  omega

theorem expired_eq_false {n : SettingId} {since : Nat} (hs : since ≤ s.clock) (h : (s.clock - since : Int) < s.setting n) :
    s.expired n since = false := by
  rw [← Bool.not_eq_true, expired_eq_true_iff]
  omega

theorem expired_congr (hset : t.settings = s.settings) (hclock : t.clock = s.clock) (n : SettingId) (since : Nat) :
    t.expired n since = s.expired n since := by
  rw [Bool.eq_iff_iff, expired_eq_true_iff, expired_eq_true_iff, State.setting, State.setting, hset, hclock]

/-! ## Trackers -/

/-- The record of a port that was heard. -/
theorem heard_up_self (s : State) (p : Up) :
    (s.heard p).up p = { s.up p with goodRun := min 8 ((s.up p).goodRun + 1), failedRun := 0 } := by
  simp

theorem exec_frameOpen {p : Up} (n : W16) (h : s.listens p) : exec (.frameOpen p n) s =
    .next (if s.selector.active = some p then receiveOpen n (trackOpen p n (s.heard p)) else trackOpen p n (s.heard p)) := by
  show Host.Outcome.next (upCell p _ s) = _
  rw [upCell_listens _ h]
  simp

theorem exec_frameClose {p : Up} (n : W16) (h : s.listens p) : exec (.frameClose p n) s =
    .next (if s.selector.active = some p then receiveClose n (trackClose p n (s.heard p))
      else trackClose p n (s.heard p)) := by
  show Host.Outcome.next (upCell p _ s) = _
  rw [upCell_listens _ h]
  simp

theorem trackOpen_heard (p : Up) (n : W16) (s : State) : trackOpen p n (s.heard p) = (s.heard p).withUp p
    { (s.heard p).up p with
      lastOpen := some s.clock
      completeRun := if (s.up p).openFrame.isSome then 0 else (s.up p).completeRun
      openFrame := some ⟨n, s.clock⟩ } := by
  simp [trackOpen]

/-- The record of a port whose tracker has completed a frame. -/
def Upstream.completed (u : Upstream) : Upstream :=
  { u with openFrame := none, completeRun := min 3 (u.completeRun + 1), complete := tallied u.complete }

theorem trackClose_of_match {p : Up} {n : W16} {f : OpenFrame} (hf : (s.up p).openFrame = some f) (hn : f.number = n) :
    trackClose p n s = tryUp p (s.withUp p (s.up p).completed) := by
  unfold trackClose
  dsimp only
  rw [hf]
  exact if_pos hn

theorem trackClose_of_no_match {p : Up} {n : W16} (h : ∀ f, (s.up p).openFrame = some f → f.number ≠ n) :
    trackClose p n s = s.withUp p (s.up p).uncompleted := by
  unfold trackClose
  dsimp only
  split
  · next f hf => rw [if_neg (h f hf)]
  · rfl

theorem tryUp_of_not {p : Up} (h : ¬ ((s.up p).state = .aligned ∧ (s.up p).completeRun = 3)) : tryUp p s = s := by
  rw [tryUp]
  exact if_neg h

theorem tryUp_of {p : Up} (h : (s.up p).state = .aligned) (hr : (s.up p).completeRun = 3) :
    tryUp p s = if sourceFresh s p then settle (s.withUp p { s.up p with state := .up })
      else s.withUp p { s.up p with completeRun := 0 } := by
  rw [tryUp]
  exact if_pos ⟨h, hr⟩

/-- Settles O11. -/
theorem trackerFollowsFrames : Obligations.TrackerFollowsFrames := by
  unfold Obligations.TrackerFollowsFrames
  intro p n s hl ha
  have hheard := heard_up_self s p
  refine ⟨?_, fun f hf hn _ hup => ?_, fun hno => ?_⟩
  · rw [exec_frameOpen n hl, if_neg ha, trackOpen_heard]
  · rw [exec_frameClose n hl, if_neg ha, trackClose_of_match (f := f) (by rw [hheard]; exact hf) hn, tryUp_of_not]
    · simp [Upstream.completed]
    · rw [State.withUp_up_self, hheard]
      rintro ⟨h1, h2⟩
      simp only [Upstream.completed] at h1 h2
      rcases hup with h | h
      · rw [h] at h1
        exact nomatch h1
      · omega
  · rw [exec_frameClose n hl, if_neg ha, trackClose_of_no_match (by rw [hheard]; exact hno)]
    rfl

/-! ## The third complete frame -/

/-- The record of an ALIGNED port whose third complete frame has taken it UP. -/
def Upstream.wentUp (u : Upstream) : Upstream :=
  { u with openFrame := none, completeRun := 3, complete := tallied u.complete, state := .up }

/-- The record of an ALIGNED port whose third complete frame came after its source loss time. -/
def Upstream.tooLate (u : Upstream) : Upstream :=
  { u with openFrame := none, completeRun := 0, complete := tallied u.complete }

/-- R6, log 7: a close by which an ALIGNED port's run reaches 3 takes it UP while its source loss time has not expired. -/
theorem exec_thirdClose {p : Up} {n : W16} {f : OpenFrame} {at_ : Nat} (hl : s.listens p) (ha : s.selector.active ≠ some p)
    (hs : (s.up p).state = .aligned) (hrun : (s.up p).completeRun = 2) (hf : (s.up p).openFrame = some f)
    (hn : f.number = n) (hopen : (s.up p).lastOpen = some at_) : exec (.frameClose p n) s = .next
      (if s.expired 1 at_ then (s.heard p).withUp p ((s.heard p).up p).tooLate
      else settle ((s.heard p).withUp p ((s.heard p).up p).wentUp)) := by
  have hheard := heard_up_self s p
  generalize hh : s.heard p = h at hheard
  have hrun' : (h.up p).completed.completeRun = 3 := by simp [Upstream.completed, hheard, hrun]
  have hopen' : (h.up p).completed.lastOpen = some at_ := by simp [Upstream.completed, hheard, hopen]
  have hfresh : sourceFresh (h.withUp p (h.up p).completed) p = !s.expired 1 at_ := by
    rw [sourceFresh, State.withUp_up_self, hopen']
    exact congrArg (!·) (expired_congr (by simp [← hh]) (by simp [← hh]) 1 at_)
  have hstate' : (h.up p).completed.state = .aligned := by simp [Upstream.completed, hheard, hs]
  rw [exec_frameClose n hl, if_neg ha, hh, trackClose_of_match (f := f) (by rw [hheard]; exact hf) hn,
    tryUp_of (by rw [State.withUp_up_self, hstate']) (by rw [State.withUp_up_self, hrun']), hfresh,
    State.withUp_withUp, State.withUp_withUp, State.withUp_up_self]
  have hup : ({ (h.up p).completed with state := .up } : Upstream) = (h.up p).wentUp := by
    simp [Upstream.completed, Upstream.wentUp, hheard, hrun]
  rw [hup]
  cases s.expired 1 at_ <;> rfl

theorem sourceChoice_of_up_other_not {p : Up} (h : (s.up p).state = .up) (ho : (s.up (otherPort p)).state ≠ .up) :
    sourceChoice s = some p := by
  rw [sourceChoice_of_not_up ho, show otherPort (otherPort p) = p by cases p <;> rfl, if_pos h]

theorem sourceChoice_of_preferred {p : Up} (hp : s.preferred = p) (h : (s.up p).state = .up) : sourceChoice s = some p := by
  rw [sourceChoice, hp, if_pos h]

theorem otherPort_ne (p : Up) : otherPort p ≠ p := by cases p <;> exact nofun

theorem wentUp_heard (s : State) (p : Up) : ((s.heard p).up p).wentUp = { (s.heard p).up p with
    openFrame := none
    completeRun := 3
    complete := tallied (s.up p).complete
    state := .up } := by
  simp [Upstream.wentUp]

theorem tooLate_heard (s : State) (p : Up) : ((s.heard p).up p).tooLate =
    { (s.heard p).up p with openFrame := none, completeRun := 0, complete := tallied (s.up p).complete } := by
  simp [Upstream.tooLate]

/-- R11, R12: the selector settles with the other port active and UP, after `p` has entered UP. -/
theorem settle_of_other_active {p : Up} (ha : s.selector.active = some (otherPort p))
    (ho : (s.up (otherPort p)).state = .up) (hp : (s.up p).state = .up) :
    (s.preferred = otherPort p → settle s = s.withSelector ⟨some (otherPort p), none⟩) ∧
    (s.preferred = p → s.receiving = false → settle s = raise .sourceSwitch none (s.withSelector ⟨some p, none⟩)) ∧
    (s.preferred = p → s.receiving = true → settle s = s.withSelector ⟨some (otherPort p), some p⟩) := by
  have hne : sourceChoice s = some p → ¬ sourceChoice s = some (otherPort p) := fun h h' =>
    otherPort_ne p (Option.some.inj (h'.symm.trans h))
  have hsettle : settle s = if sourceChoice s = some (otherPort p) then s.withSelector ⟨some (otherPort p), none⟩
      else if s.receiving then s.withSelector ⟨some (otherPort p), sourceChoice s⟩ else switchSource (sourceChoice s) s := by
    rw [settle, ha]
    dsimp only
    rw [if_neg (not_not.mpr ho)]
  rw [hsettle]
  refine ⟨fun h => if_pos (sourceChoice_of_preferred h ho), fun h hr => ?_, fun h hr => ?_⟩
  · have hc := sourceChoice_of_preferred h hp
    rw [if_neg (hne hc), hr, hc]
    rfl
  · have hc := sourceChoice_of_preferred h hp
    rw [if_neg (hne hc), hr, hc]
    rfl

/-- Settles O12. -/
theorem thirdCompleteFrameTakesPortUp : Obligations.ThirdCompleteFrameTakesPortUp := by
  unfold Obligations.ThirdCompleteFrameTakesPortUp
  refine ⟨fun p n f at_ s hl hs ha ho hrun hf hn hopen hle => ?_,
    fun p n f at_ s hl hs ha ho hset hrun hf hn hopen hle => ?_⟩
  · rw [exec_thirdClose hl (by rw [ha]; exact nofun) hs hrun hf hn hopen, ← wentUp_heard, ← tooLate_heard]
    refine ⟨fun hlt => ?_, fun hge hset => by rw [if_pos ((expired_iff hle hset).mpr hge)]⟩
    rw [expired_eq_false hle hlt]
    generalize hx : ((s.heard p).up p).wentUp = x
    have hchoice : sourceChoice ((s.heard p).withUp p x) = some p := by
      refine sourceChoice_of_up_other_not ?_ ?_
      · rw [State.withUp_up_self, ← hx]
        rfl
      · rw [State.withUp_up_other, State.heard_up, if_neg (otherPort_ne p).symm]
        exact ho
    have hact : ((s.heard p).withUp p x).selector.active = none := by simp [ha]
    simp only [Bool.false_eq_true, if_false]
    rw [settle, hact]
    dsimp only
    rw [hchoice]
    rfl
  · rw [exec_thirdClose hl (by rw [ha]; exact fun h => otherPort_ne p (Option.some.inj h)) hs hrun hf hn hopen]
    dsimp only
    rw [← wentUp_heard, ← tooLate_heard]
    refine ⟨fun hlt => ?_, fun hge => by rw [if_pos ((expired_iff hle hset).mpr hge)]⟩
    rw [expired_eq_false hle hlt]
    simp only [Bool.false_eq_true, if_false]
    generalize hx : ((s.heard p).up p).wentUp = x
    have hup : (((s.heard p).withUp p x).up p).state = .up := by
      rw [State.withUp_up_self, ← hx]
      rfl
    have hother : (((s.heard p).withUp p x).up (otherPort p)).state = .up := by
      rw [State.withUp_up_other, State.heard_up, if_neg (otherPort_ne p).symm]
      exact ho
    have hact : ((s.heard p).withUp p x).selector.active = some (otherPort p) := by simp [ha]
    have hpref : ((s.heard p).withUp p x).preferred = (if s.setting 0 = 1 then Up.ub else Up.ua) :=
      State.preferred_of_settings (s := s) (by simp)
    have hrecv : ((s.heard p).withUp p x).receiving = s.receiving := State.receiving_of_phase (by simp)
    obtain ⟨h1, h2, h3⟩ := settle_of_other_active hact hother hup
    exact ⟨fun h => congrArg _ (h1 (hpref.trans h)), fun h hr => congrArg _ (h2 (hpref.trans h) (hrecv.trans hr)),
      fun h hr => congrArg _ (h3 (hpref.trans h) (hrecv.trans hr))⟩

/-! ## The source loss time -/

theorem sourceStale_of_up {p : Up} {at_ : Nat} (hs : (s.up p).state = .up) (hopen : (s.up p).lastOpen = some at_) :
    sourceStale s p = s.expired 1 at_ := by
  simp [sourceStale, sourceFresh, hs, hopen]

/-- Settles O13. -/
theorem sourceLossTimeTakesPortFromUp : Obligations.SourceLossTimeTakesPortFromUp := by
  unfold Obligations.SourceLossTimeTakesPortFromUp
  intro p at_ s hs hopen hle hset
  have hstale := sourceStale_of_up hs hopen
  have hexec : exec (.sourceLossTimeExpiry p) s = .next (if s.expired 1 at_ then settle (s.withUp p
      { s.up p with state := .aligned, completeRun := 0 }) else s) := by
    show Host.Outcome.next (sourceLoss p s) = _
    rw [sourceLoss, leaveUpIfStale, hstale]
    cases s.expired 1 at_ <;> rfl
  rw [hexec]
  refine ⟨fun hge => ?_, fun hlt => ?_⟩
  · rw [if_pos ((expired_iff hle hset).mpr hge)]
    generalize hx : ({ s.up p with state := .aligned, completeRun := 0 } : Upstream) = x
    have hup : (settle (s.withUp p x)).up p = x := by
      have := touches_settle (.refl [.selector, .incoming, .receiver, .causes] (s.withUp p x)) (by simp) (.up p) (by simp)
      exact this.trans (State.withUp_up_self _ _ _)
    refine ⟨_, rfl, hup, fun ha => ?_, touches_settle (touches_withUp p x (.refl _ s) (by simp)) (by simp),
      (raised_settle (by simp) (by simp)).raisesOnly⟩
    have hnot : ((s.withUp p x).up p).state ≠ .up := by rw [State.withUp_up_self, ← hx]; exact nofun
    rw [settle_of_active_not_up (by simpa using ha) hnot, sourceChoice_of_not_up hnot, State.withUp_up_other]
    refine ⟨switchSource_selector _ _, ?_, switchSource_pending _ _⟩
    rw [switchSource_receiver, abandonFrame_receiver]
    simp
  · rw [expired_eq_false hle hlt]
    rfl

/-! ## FRAME-OPEN of the active source -/

/-- The record of a port that was heard and whose tracker has taken a FRAME-OPEN. -/
def openedRecord (s : State) (p : Up) (n : W16) : Upstream :=
  { (s.heard p).up p with
    lastOpen := some s.clock
    completeRun := if (s.up p).openFrame.isSome then 0 else (s.up p).completeRun
    openFrame := some ⟨n, s.clock⟩ }

theorem trackOpen_heard_eq (p : Up) (n : W16) (s : State) :
    trackOpen p n (s.heard p) = s.withUp p (openedRecord s p n) := by
  rw [trackOpen_heard]
  exact State.withUp_withUp _ _ _ _

theorem receiveOpen_of_idle (m : W16) (hr : s.receiving = false) (hready : s.receiver.ready = false) :
    receiveOpen m s = beginFrame m s := by
  rw [receiveOpen, hr, hready]
  rfl

theorem receiveOpen_of_ready (m : W16) (hr : s.receiving = false) (hready : s.receiver.ready = true) :
    receiveOpen m s = beginFrame m (raise .frameDrop none (s.withReceiver { s.receiver with ready := false })) := by
  rw [receiveOpen, hr, hready]
  rfl

theorem abandonFrame_of_receiving (hr : s.receiving = true) :
    abandonFrame s = (s.withIncoming (Table.replicate 16 [])).withReceiver { s.receiver with phase := .idle } := by
  rw [abandonFrame, if_pos hr]

theorem receiveOpen_of_receiving (m : W16) (hr : s.receiving = true) (hp : s.selector.toSwitch = none) :
    receiveOpen m s = beginFrame m (raise .frameSeq none
      ((s.withIncoming (Table.replicate 16 [])).withReceiver { s.receiver with phase := .idle })) := by
  rw [receiveOpen, if_pos hr, abandonFrame_of_receiving hr]
  exact if_neg (by simp [raise, hp])

theorem receiveOpen_of_pending (m : W16) {q : Up} (hr : s.receiving = true) (hp : s.selector.toSwitch = some q) :
    receiveOpen m s = switchSource (some q) (raise .frameSeq none
      ((s.withIncoming (Table.replicate 16 [])).withReceiver { s.receiver with phase := .idle })) := by
  rw [receiveOpen, if_pos hr, abandonFrame_of_receiving hr]
  refine (if_pos (by simp [raise, hp])).trans ?_
  rw [carrySwitch]
  simp [raise, hp, State.receiving]

theorem beginFrame_incoming (m : W16) (s : State) {k : SlotId} (hk : (s.plans.get k).isCanvas = true) :
    (beginFrame m s).incoming.get k = s.shown.get k := by
  simp [beginFrame, hk]

/-- Settles O14. -/
theorem frameOpenBeginsFrame : Obligations.FrameOpenBeginsFrame := by
  unfold Obligations.FrameOpenBeginsFrame
  intro p n s hl ha
  rw [exec_frameOpen n hl, if_pos ha, trackOpen_heard_eq]
  generalize hx : openedRecord s p n = x
  have hrecv : (s.withUp p x).receiving = s.receiving := State.receiving_of_phase (by simp)
  have hrec : (s.withUp p x).receiver = s.receiver := by simp
  have hsel : (s.withUp p x).selector = s.selector := by simp
  have hclock : (s.withUp p x).clock = s.clock := by simp
  have hup : (receiveOpen n (s.withUp p x)).up p = x :=
    (touches_receiveOpen n (.refl [.selector, .incoming, .receiver, .causes] _) (by simp) (.up p) (by simp)).trans
      (State.withUp_up_self _ _ _)
  refine ⟨_, rfl, by rw [hup, ← hx]; rfl, fun hr hready => ?_, fun hr hready => ?_, fun hr hp => ?_, fun h k hk => ?_,
    fun q hr hp => ?_⟩
  · rw [hup, receiveOpen_of_idle n (hrecv.trans hr) (by rw [hrec]; exact hready)]
    simp [beginFrame, hready]
  · rw [hup, receiveOpen_of_ready n (hrecv.trans hr) (by rw [hrec]; exact hready)]
    exact State.ext_fields (by simp [beginFrame, raise])
  · rw [hup, receiveOpen_of_receiving n (hrecv.trans hr) (by rw [hsel]; exact hp)]
    exact State.ext_fields (by simp [beginFrame, raise])
  · have hshown : ∀ w, w.plans = s.plans → w.shown = s.shown → (beginFrame n w).incoming.get k = s.shown.get k :=
      fun w hplans hshown => by rw [beginFrame_incoming n w (by rw [hplans]; exact hk), hshown]
    cases hr : s.receiving with
    | false =>
      cases hready : s.receiver.ready with
      | false =>
        rw [receiveOpen_of_idle n (hrecv.trans hr) (by rw [hrec]; exact hready)]
        exact hshown _ (by simp) (by simp)
      | true =>
        rw [receiveOpen_of_ready n (hrecv.trans hr) (by rw [hrec]; exact hready)]
        exact hshown _ (by simp [raise]) (by simp [raise])
    | true =>
      have hp : s.selector.toSwitch = none := h.resolve_left (by simp [hr])
      rw [receiveOpen_of_receiving n (hrecv.trans hr) (by rw [hsel]; exact hp)]
      exact hshown _ (by simp [raise]) (by simp [raise])
  · rw [hup, receiveOpen_of_pending n (hrecv.trans hr) (by rw [hsel]; exact hp)]
    exact State.ext_fields (by simp [switchSource, raise])

end Sys2Proof.Machine
end

section
/-! PROOFS. Footprints and pixel runs (R24, R33, R34, R38): O15, O16. -/

namespace Sys2Proof.Machine

variable {s t : State} {c : CanvasPlan}

/-! ## The mapping of a footprint onto its tile -/

/-- A column offset with the mirror applied (R33, step 2). -/
def CanvasPlan.mirrored (c : CanvasPlan) (u : Nat) : Nat := if c.mirror then c.width - 1 - u else u

/-- The native place of a footprint offset. -/
def CanvasPlan.place (c : CanvasPlan) (u v : Nat) : Nat × Nat := c.orient (c.mirrored u) v

theorem CanvasPlan.mirrored_lt {u : Nat} (h : u < c.width) : c.mirrored u < c.width := by
  unfold CanvasPlan.mirrored
  split <;> omega

theorem CanvasPlan.mirrored_mirrored {u : Nat} (h : u < c.width) : c.mirrored (c.mirrored u) = u := by
  unfold CanvasPlan.mirrored
  split <;> omega

theorem native_eq_some_iff {line column : Nat} {xy : Nat × Nat} : c.native line column = some xy ↔
    (c.line ≤ line ∧ line < c.line + c.height ∧ c.column ≤ column ∧ column < c.column + c.width) ∧
    c.place (column - c.column) (line - c.line) = xy := by
  unfold CanvasPlan.native
  split
  · next h =>
    simp only [Bool.and_eq_true, decide_eq_true_eq, and_assoc] at h
    simp only [h, and_self, true_and, Option.some.injEq]
    rfl
  · next h =>
    simp only [Bool.and_eq_true, decide_eq_true_eq, and_assoc] at h
    exact ⟨fun hn => (nomatch hn), fun ⟨hin, _⟩ => absurd hin h⟩

theorem native_eq_none {line column : Nat}
    (h : line < c.line ∨ c.line + c.height ≤ line ∨ column < c.column ∨ c.column + c.width ≤ column) :
    c.native line column = none := by
  rw [Option.eq_none_iff_forall_ne_some]
  intro xy hxy
  obtain ⟨hin, -⟩ := native_eq_some_iff.mp hxy
  omega

theorem native_offset {u v : Nat} (hu : u < c.width) (hv : v < c.height) :
    c.native (c.line + v) (c.column + u) = some (c.place u v) := by
  rw [native_eq_some_iff]
  refine ⟨by omega, ?_⟩
  rw [Nat.add_sub_cancel_left, Nat.add_sub_cancel_left]

/-- R24: the implied size by orientation. -/
theorem implied_eq (c : CanvasPlan) : c.implied = match c.orientation with
    | .deg0 => (c.width, c.height)
    | .deg90 => (c.height, c.width)
    | .deg180 => (c.width, c.height)
    | .deg270 => (c.height, c.width) := by
  unfold CanvasPlan.implied
  cases c.orientation <;> rfl

/-- R33: the native place of an offset by orientation. -/
theorem place_eq (c : CanvasPlan) (u v : Nat) : c.place u v = match c.orientation with
    | .deg0 => (c.mirrored u, v)
    | .deg90 => (v, c.width - 1 - c.mirrored u)
    | .deg180 => (c.width - 1 - c.mirrored u, c.height - 1 - v)
    | .deg270 => (c.height - 1 - v, c.mirrored u) := by
  unfold CanvasPlan.place CanvasPlan.orient CanvasPlan.implied
  cases c.orientation <;> rfl

theorem place_lt_implied {u v : Nat} (hu : u < c.width) (hv : v < c.height) :
    (c.place u v).1 < c.implied.1 ∧ (c.place u v).2 < c.implied.2 := by
  have hm := CanvasPlan.mirrored_lt hu
  rw [place_eq, implied_eq]
  cases c.orientation <;> dsimp only <;> omega

/-- The footprint offset of a native place: the inverse of `place`. -/
def CanvasPlan.offset (c : CanvasPlan) (x y : Nat) : Nat × Nat :=
  match c.orientation with
  | .deg0 => (c.mirrored x, y)
  | .deg90 => (c.mirrored (c.width - 1 - y), x)
  | .deg180 => (c.mirrored (c.width - 1 - x), c.height - 1 - y)
  | .deg270 => (c.mirrored y, c.height - 1 - x)

theorem offset_place {u v : Nat} (hu : u < c.width) (hv : v < c.height) :
    c.offset (c.place u v).1 (c.place u v).2 = (u, v) := by
  have hm := CanvasPlan.mirrored_lt hu
  have hmm := CanvasPlan.mirrored_mirrored hu
  have hw : c.width - 1 - (c.width - 1 - c.mirrored u) = c.mirrored u := by omega
  have hh : c.height - 1 - (c.height - 1 - v) = v := by omega
  rw [place_eq, CanvasPlan.offset]
  cases c.orientation <;> simp only [hmm, hw, hh]

theorem place_offset {x y : Nat} (hx : x < c.implied.1) (hy : y < c.implied.2) :
    (c.offset x y).1 < c.width ∧ (c.offset x y).2 < c.height ∧ c.place (c.offset x y).1 (c.offset x y).2 = (x, y) := by
  rw [implied_eq] at hx hy
  have hlt : ∀ u, u < c.width → c.mirrored u < c.width := fun u h => CanvasPlan.mirrored_lt h
  have hmm : ∀ u, u < c.width → c.mirrored (c.mirrored u) = u := fun u h => CanvasPlan.mirrored_mirrored h
  rw [place_eq, CanvasPlan.offset]
  cases ho : c.orientation <;> rw [ho] at hx hy <;> dsimp only at hx hy ⊢
  case deg0 => exact ⟨hlt x hx, hy, by rw [hmm x hx]⟩
  case deg90 => exact ⟨hlt _ (by omega), hx, by rw [hmm _ (by omega)]; congr 1; omega⟩
  case deg180 =>
    exact ⟨hlt _ (by omega), by omega, by rw [hmm _ (by omega)]; congr 1 <;> omega⟩
  case deg270 => exact ⟨hlt y hy, by omega, by rw [hmm y hy]; congr 1; omega⟩

/-- Two canvas pixels of a footprint that reach the same native place are one. -/
theorem native_injective {l m line column : Nat} {xy : Nat × Nat} (h : c.native l m = some xy)
    (g : c.native line column = some xy) : l = line ∧ m = column := by
  obtain ⟨hin, rfl⟩ := native_eq_some_iff.mp h
  obtain ⟨gin, hg⟩ := native_eq_some_iff.mp g
  have h1 := offset_place (c := c) (u := m - c.column) (v := l - c.line) (by omega) (by omega)
  have h2 := offset_place (c := c) (u := column - c.column) (v := line - c.line) (by omega) (by omega)
  rw [hg, h1, Prod.mk.injEq] at h2
  omega

/-- Settles O16: `offset` inverts `place`. -/
theorem footprintMapsOntoTile : Obligations.FootprintMapsOntoTile := by
  unfold Obligations.FootprintMapsOntoTile
  intro c
  refine ⟨fun line column h1 h2 h3 h4 => ?_, fun x y hx hy => ?_, fun u v hu hv => ?_,
    fun line column h => native_eq_none h, implied_eq c⟩
  · have hn : c.native line column = some (c.place (column - c.column) (line - c.line)) :=
      native_eq_some_iff.mpr ⟨⟨h1, h2, h3, h4⟩, rfl⟩
    exact ⟨_, _, hn, place_lt_implied (by omega) (by omega)⟩
  · obtain ⟨hu, hv, hplace⟩ := place_offset hx hy
    have hn := native_offset hu hv
    rw [hplace] at hn
    exact ⟨_, _, hn, fun l m h => native_injective h hn⟩
  · dsimp only
    rw [native_offset hu hv, place_eq]
    rfl

/-! ## Pixel runs -/

theorem pixelKey_injective {x y x' y' : Nat} (hx : x < 256) (hx' : x' < 256) (h : pixelKey x y = pixelKey x' y') :
    x = x' ∧ y = y' := by
  unfold pixelKey at h
  omega

theorem native_lt_256 (hw : c.width ≤ 256) (hh : c.height ≤ 256) {line column x y : Nat}
    (h : c.native line column = some (x, y)) : x < 256 := by
  obtain ⟨hin, hplace⟩ := native_eq_some_iff.mp h
  have hlt := (place_lt_implied (c := c) (u := column - c.column) (v := line - c.line) (by omega) (by omega)).1
  rw [hplace, implied_eq] at hlt
  cases ho : c.orientation <;> rw [ho] at hlt <;> dsimp only at hlt <;> omega

/-- A run placed, pixel by pixel. -/
theorem placeRun_cons (line column : Nat) (p : RawPixel) (rest : List RawPixel) (img : Image) :
    placeRun (.canvas c) line column (p :: rest) img = placeRun (.canvas c) line (column + 1) rest
      (match c.native line column with
        | some (x, y) => Image.write img (pixelKey x y) (RawPixel.value p)
        | none => img) := by
  unfold placeRun
  dsimp only
  rw [List.foldl_cons]
  cases c.native line column <;> rfl

theorem wf_writeOptional {img : Image} (h : Image.wf img = true) (o : Option (Nat × Nat)) (p : Pixel) :
    Image.wf (match o with
      | some (x, y) => Image.write img (pixelKey x y) p
      | none => img) = true := by
  cases o with
  | none => exact h
  | some xy => exact Image.wf_write _ _ _ h

/-- A pixel that no pixel of the run reaches is as before. -/
theorem pixel_placeRun_other {line key : Nat} {pixels : List RawPixel} {column : Nat} {img : Image} (hwf : Image.wf img = true)
    (h : ∀ i x y, i < pixels.length → c.native line (column + i) = some (x, y) → key ≠ pixelKey x y) :
    Image.pixel (placeRun (.canvas c) line column pixels img) key = Image.pixel img key := by
  induction pixels generalizing column img with
  | nil => rfl
  | cons p rest ih =>
    rw [placeRun_cons, ih (wf_writeOptional hwf _ _)]
    · cases hn : c.native line column with
      | none => rfl
      | some xy =>
        dsimp only
        rw [Image.pixel_write _ _ _ _ hwf, if_neg (h 0 xy.1 xy.2 (Nat.zero_lt_succ _) hn)]
    · intro i x y hi hn
      exact h (i + 1) x y (Nat.succ_lt_succ hi) (by rw [← hn]; congr 1; omega)

/-- The pixel at a native place that the run reaches is the run's pixel. -/
theorem pixel_placeRun {line : Nat} (hw : c.width ≤ 256) (hh : c.height ≤ 256) {pixels : List RawPixel} {column : Nat}
    {img : Image} (hwf : Image.wf img = true) {i x y : Nat} (hi : i < pixels.length)
    (hn : c.native line (column + i) = some (x, y)) :
    Image.pixel (placeRun (.canvas c) line column pixels img) (pixelKey x y) = RawPixel.value pixels[i] := by
  induction pixels generalizing column img i with
  | nil => exact absurd hi (Nat.not_lt_zero i)
  | cons p rest ih =>
    rw [placeRun_cons]
    cases i with
    | zero =>
      rw [Nat.add_zero] at hn
      rw [pixel_placeRun_other (wf_writeOptional hwf _ _), hn]
      · dsimp only
        rw [Image.pixel_write _ _ _ _ hwf, if_pos rfl]
        rfl
      · intro j x' y' _ hn' hkey
        obtain ⟨rfl, rfl⟩ := pixelKey_injective (native_lt_256 hw hh hn) (native_lt_256 hw hh hn') hkey
        have := (native_injective hn hn').2
        omega
    | succ i =>
      have hn' : c.native line (column + 1 + i) = some (x, y) := by rw [← hn]; congr 1; omega
      exact ih (wf_writeOptional hwf _ _) (Nat.lt_of_succ_lt_succ hi) hn'

theorem runMalformed_iff (line column count : Nat) :
    runMalformed line column count = true ↔ count = 0 ∨ 128 < count ∨ 4095 < line ∨ 4096 < column + count := by
  simp [runMalformed, or_assoc]

theorem exec_pixelRun {p : Up} (line column : W16) (pixels : List RawPixel) (h : s.listens p) :
    exec (.pixelRun p line column pixels) s = .next
      (if runMalformed line.toNat column.toNat pixels.length then countForeign p (s.heard p)
      else if s.selector.active = some p then receiveRun line.toNat column.toNat pixels (s.heard p) else s.heard p) := by
  show Host.Outcome.next (upCell p _ s) = _
  rw [upCell_listens _ h]
  simp

theorem receiving_heard (s : State) (p : Up) : (s.heard p).receiving = s.receiving := State.receiving_of_phase (by simp)

/-- Settles O15. -/
theorem pixelRunPlacesPixels : Obligations.PixelRunPlacesPixels := by
  unfold Obligations.PixelRunPlacesPixels
  refine ⟨fun p line column pixels s hl hm => ⟨fun ha hr => ?_, fun h => ?_⟩, fun p line column pixels s hl hm => ?_⟩
  · have hexec : exec (.pixelRun p line column pixels) s = .next ((s.heard p).withIncoming (Table.tabulate fun k =>
        placeRun (s.plans.get k) line.toNat column.toNat pixels (s.incoming.get k))) := by
      rw [exec_pixelRun line column pixels hl, hm, if_pos ha, receiveRun, receiving_heard, hr]
      simp
    refine ⟨_, hexec, by simp, fun k c hk hw hh hwf => ⟨fun i hi x y hn => ?_, fun key hkey => ?_⟩⟩
    · simp only [State.withIncoming_fields, Table.get_tabulate, hk]
      exact pixel_placeRun hw hh hwf hi hn
    · simp only [State.withIncoming_fields, Table.get_tabulate, hk]
      exact pixel_placeRun_other hwf hkey
  · rw [exec_pixelRun line column pixels hl, hm]
    simp only [Bool.false_eq_true, if_false]
    split
    · next ha => rw [receiveRun, receiving_heard, h.resolve_left (not_not.mpr ha)]; rfl
    · rfl
  · rw [exec_pixelRun line column pixels hl, if_pos ((runMalformed_iff _ _ _).mpr hm)]
    simp [countForeign, tallyUp, tallied, Config.tallyMax]

end Sys2Proof.Machine
end

section
/-! PROOFS. Lines and scan starts (R47, R48, R50, R103, R115) in the words of Safety: the cells of a line, the scan a start
puts in flight, what it is bound from, and how its first cell begins. -/

namespace Sys2Proof.Machine

variable {s t u w : State}

/-! ## The cells of a line -/

theorem length_finishLine (black : Bool) (c : SentCopy) (depth y : Nat) (scaled : List (Rgb Nat)) :
    (finishLine black c depth y scaled).1.length = scaled.length := by
  unfold finishLine
  split <;> simp [substitute]

theorem length_lineOf (s : State) (b : Binding) (k : SlotId) (c : SentCopy) (size : BoundSize) (y : Nat) :
    (lineOf s b k c size y).1.length = size.width := by
  rw [lineOf, length_finishLine, length_scaledLine]

theorem flatMap_toList (values : List (Rgb Nat)) : (values.flatMap fun v => v.toList.flatMap (beBytes 2)) =
    values.flatMap fun v => beBytes 2 v.r ++ beBytes 2 v.g ++ beBytes 2 v.b := by
  simp [Rgb.toList, List.append_assoc]

/-- R50: what `lineCells` makes of a line of `w` values. -/
theorem lineCells_eq (k : SlotId) (y w : Nat) {values : List (Rgb Nat)} (h : values.length = w) : lineCells k y values =
    (List.range ((w + 63) / 64)).map fun i =>
      ⟨0x40, 0, [BitVec.ofNat 8 k.val, BitVec.ofNat 8 y, BitVec.ofNat 8 (64 * i), BitVec.ofNat 8 (min 64 (w - 64 * i))] ++
        ((values.drop (64 * i)).take 64).flatMap fun v => beBytes 2 v.r ++ beBytes 2 v.g ++ beBytes 2 v.b⟩ := by
  unfold lineCells
  rw [h]
  refine List.map_congr_left fun i _ => ?_
  rw [tilePixelsCell, flatMap_toList, Config.cellPixels, List.length_take, List.length_drop, h]
  rfl

/-- R51: the input of a pixel as `formedLine` writes it. -/
theorem sourceInput_eq (s : State) (x : BoundSlot) (k : SlotId) (col y : Nat) : sourceInput s x k col y =
    match x.source with
    | .none => ⟨0, 0, 0⟩
    | .canvas => shownPixel s k col y
    | .mirror j => if x.mirrorUsable then shownPixel s j col y else ⟨0, 0, 0⟩
    | .flat colour => colour
    | .grid colour pitch => if col % pitch = 0 ∨ y % pitch = 0 then colour else ⟨0, 0, 0⟩ := by
  unfold sourceInput
  cases x.source <;> rfl

/-- R50, R103, R115: a line as the scan forms it is the `formedLine` of Safety. -/
theorem formedLine_eq (s : State) (b : Binding) (k : SlotId) (c : SentCopy) (z : BoundSize) (y : Nat) :
    formedLine s b k c z y = (lineCells k y (lineOf s b k c z y).1, (lineOf s b k c z y).2) := by
  rw [lineCells_eq k y z.width (length_lineOf s b k c z y)]
  unfold formedLine lineOf finishLine overridden scaledLine
  simp only [sourceInput_eq]
  cases (b.slots.get k).dark || decide (b.display = Display.blanked) || b.blank with
  | true =>
    have hblack : ∀ f : Nat → Rgb Nat, ((List.range z.width).map f).map (fun _ => Rgb.all 0) =
        List.replicate z.width ⟨0, 0, 0⟩ := fun f => by
      rw [List.map_const', List.length_map, List.length_range]
      rfl
    simp only [if_true, hblack]
  | false => rfl

/-- A line of at least one pixel has a first cell. -/
theorem exists_cons_of_formedLine {b : Binding} {k : SlotId} {c : SentCopy} {z : BoundSize} {y : Nat} (h : 0 < z.width) :
    ∃ first rest, (formedLine s b k c z y).1 = first :: rest := by
  rw [formedLine_eq, lineCells_eq k y z.width (length_lineOf s b k c z y)]
  obtain ⟨n, hn⟩ : ∃ n, (z.width + 63) / 64 = n + 1 := ⟨(z.width + 63) / 64 - 1, by omega⟩
  rw [hn, List.range_succ_eq_map]
  exact ⟨_, _, rfl⟩

/-- A line is formed from the plans and the shown images alone. -/
theorem formedLine_congr (hplans : t.plans = s.plans) (hshown : t.shown = s.shown) (b : Binding) (k : SlotId)
    (c : SentCopy) (z : BoundSize) (y : Nat) : formedLine t b k c z y = formedLine s b k c z y := by
  have h : ∀ j x y, shownPixel t j x y = shownPixel s j x y := fun j x y => by
    rw [shownPixel, shownPixel, hplans, hshown]
  unfold formedLine
  simp only [h]

/-! ## The next sent slot -/

theorem nextSent_le (b : Binding) (n : Nat) : nextSent b n ≤ 16 := by
  unfold nextSent
  split
  · next k _ => exact k.isLt.le
  · exact le_rfl

/-- R50: the first sent slot from `n` on, 16 when there is none. -/
theorem nextSent_spec (b : Binding) (n : Nat) :
    (∀ j : SlotId, n ≤ j.val → j.val < nextSent b n → (b.slots.get j).sent = none) ∧
    (∀ j : SlotId, j.val = nextSent b n → n ≤ j.val ∧ (b.slots.get j).sent.isSome = true) := by
  unfold nextSent
  cases hf : allSlots.find? fun k => decide (n ≤ k.val) && (b.slots.get k).sent.isSome with
  | some k =>
    obtain ⟨hk, hlt⟩ := find?_allSlots_eq_some.mp hf
    simp only [Bool.and_eq_true, decide_eq_true_eq] at hk
    refine ⟨fun j hn hj => ?_, fun j hj => Fin.ext hj ▸ hk⟩
    have := hlt j hj
    simpa [hn] using this
  | none =>
    rw [find?_allSlots_eq_none] at hf
    refine ⟨fun j hn _ => by simpa [hn] using hf j, fun j hj => absurd hj (by have := j.isLt; dsimp only; omega)⟩

theorem nextSent_of_none {b : Binding} (h : ∀ k, (b.slots.get k).sent = none) (n : Nat) : nextSent b n = 16 := by
  by_contra hne
  have hlt : nextSent b n < 16 := lt_of_le_of_ne (nextSent_le b n) hne
  have := ((nextSent_spec b n).2 ⟨nextSent b n, hlt⟩ rfl).2
  rw [h] at this
  exact nomatch this

theorem nextSent_zero_of_first {b : Binding} {k : SlotId} (hk : (b.slots.get k).sent.isSome = true)
    (hlt : ∀ j, j < k → (b.slots.get j).sent = none) : nextSent b 0 = k.val := by
  obtain ⟨hbefore, hat⟩ := nextSent_spec b 0
  have hle : nextSent b 0 ≤ k.val := by
    by_contra h
    rw [hbefore k (Nat.zero_le _) (by omega)] at hk
    exact nomatch hk
  by_contra hne
  have hlt' : nextSent b 0 < k.val := by omega
  have hsome := (hat ⟨nextSent b 0, by have := k.isLt; omega⟩ rfl).2
  rw [hlt _ (Fin.mk_lt_of_lt_val hlt')] at hsome
  exact nomatch hsome

/-! ## The line formed next -/

theorem formLine_of_end {sc : Scan} (h : 16 ≤ sc.slot) : sc.formLine s = sc := by
  rw [Scan.formLine, dif_neg (by omega)]

/-- The scan after a line of slot `k` has been formed. -/
theorem formLine_of_slot {sc : Scan} {k : SlotId} {c : SentCopy} {z : BoundSize} (hk : sc.slot = k.val)
    (hc : (sc.binding.slots.get k).sent = some c) (hz : (sc.binding.slots.get k).size = some z) :
    sc.formLine s = { sc with
      running := sc.running.set k (sc.running.get k + (formedLine s sc.binding k c z sc.line).2)
      slot := (nextPlace sc.binding k z.height sc.line).1
      line := (nextPlace sc.binding k z.height sc.line).2
      cells := (formedLine s sc.binding k c z sc.line).1 } := by
  have hlt : sc.slot < 16 := by rw [hk]; exact k.isLt
  have hfin : (⟨sc.slot, hlt⟩ : SlotId) = k := Fin.ext hk
  rw [Scan.formLine, dif_pos hlt]
  dsimp only
  rw [hfin, hc, hz]
  dsimp only
  rw [formedLine_eq]

theorem formLine_binding (s : State) (sc : Scan) : (sc.formLine s).binding = sc.binding := by
  unfold Scan.formLine
  split
  · dsimp only
    split <;> rfl
  · rfl

/-! ## Binding -/

theorem mirrorUsable_iff {k j : SlotId} {dark : Bool} (h : s.plans.get k = .mirror dark j) : mirrorUsable s k = true ↔
    ∃ c f, s.plans.get j = .canvas c ∧ (s.tile k).facts = some f ∧ c.implied = (f.width.toNat, f.height.toNat) := by
  unfold mirrorUsable
  rw [h]
  cases hf : (s.tile k).facts with
  | none => simp
  | some f =>
    dsimp only
    split
    · next c hc => simp [hc]
    · next hno => exact ⟨fun hn => (nomatch hn), fun ⟨c, _, hc, _⟩ => absurd hc (hno c)⟩

theorem boundFrom_bind (s : State) : boundFrom s (bind s) := by
  have hslot : ∀ k, (bind s).slots.get k = bindSlot s k := fun k => Table.get_tabulate _ k
  refine ⟨rfl, rfl, rfl, rfl, fun k => ?_⟩
  rw [hslot]
  refine ⟨rfl, rfl, ?_, rfl, fun dark j hplan => ?_, ?_, fun y hy => ?_⟩
  · show (s.plans.get k).bound = _
    cases s.plans.get k <;> rfl
  · exact mirrorUsable_iff hplan
  · show (if (s.tile k).presence.isSent then some _ else none).isSome = true ↔ _
    cases hp : (s.tile k).presence <;> simp [Presence.isSent]
  · have hif : (if (s.tile k).presence.isSent then
        some (⟨slotCalibration s k, s.bands.get k, slotGain s k⟩ : SentCopy) else none) = some y := hy
    split at hif
    · obtain rfl := Option.some.inj hif
      refine ⟨rfl, fun hu => ?_, fun f r hm hf hr => ?_⟩
      · simp only [slotCalibration, boundRecord, hu]
        rfl
      · simp only [slotCalibration, boundRecord, hm, hf, hr]
        rfl
    · exact nomatch hif

/-- What a binding is bound from. -/
structure SameBound (s t : State) : Prop where
  tiles : t.tiles = s.tiles
  plans : t.plans = s.plans
  bands : t.bands = s.bands
  records : t.records = s.records
  settings : t.settings = s.settings
  display : t.engine.display = s.engine.display
  blank : t.engine.blank = s.engine.blank

theorem boundFrom_congr {b : Binding} (h : SameBound s t) (hb : boundFrom s b) : boundFrom t b := by
  unfold boundFrom at hb ⊢
  simp only [State.setting, State.tile, h.tiles, h.plans, h.bands, h.records, h.settings, h.display, h.blank] at hb ⊢
  exact hb

/-! ## A scan just started -/

/-- The scan that a start puts in flight, its first line formed. -/
def freshScan (s : State) : Scan := Scan.formLine s ⟨bind s, Table.replicate 16 0, nextSent (bind s) 0, 0, []⟩

theorem bind_congr (h : SameBound s t) (hdrift : t.drift = s.drift) (hlevel : t.level = s.level) : bind t = bind s := by
  have hslot : bindSlot t = bindSlot s := by
    funext k
    simp only [bindSlot, mirrorUsable, slotGain, slotCalibration, boundRecord, State.tile, State.settingNat, State.setting,
      h.tiles, h.plans, h.bands, h.records, h.settings, hdrift, hlevel]
    rfl
  simp only [bind, hslot, State.settingNat, State.setting, h.settings, h.display, h.blank]

theorem formLine_congr (hplans : t.plans = s.plans) (hshown : t.shown = s.shown) (sc : Scan) :
    sc.formLine t = sc.formLine s := by
  have h : ∀ j x y, shownPixel t j x y = shownPixel s j x y := fun j x y => by
    rw [shownPixel, shownPixel, hplans, hshown]
  simp only [Scan.formLine, lineOf, sourceInput, h]

/-- The engine of `s` has just started the scan in flight, and no cell of it has begun. -/
def started (s : State) : Prop := s.engine.scan = some (freshScan s)

theorem started_of_same (h : SameBound s t) (hdrift : t.drift = s.drift) (hlevel : t.level = s.level)
    (hshown : t.shown = s.shown) (hscan : t.engine.scan = s.engine.scan) (hs : started s) : started t := by
  unfold started freshScan at *
  rw [hscan, hs, bind_congr h hdrift hlevel, formLine_congr h.plans hshown]

theorem enterScanning_eq (s : State) : enterScanning s = s.withEngine { s.engine with
    scan := some (freshScan s), number := s.engine.number + 1, repeatStart := none } := by
  unfold enterScanning formIfNeeded
  dsimp only
  simp only [State.withEngine_fields]
  rw [formLine_congr (s := s) (by simp) (by simp)]
  rfl

theorem started_enterScanning (s : State) : started (enterScanning s) := by
  have h : SameBound s (enterScanning s) := by
    rw [enterScanning_eq]
    constructor <;> simp
  unfold started
  rw [freshScan, bind_congr h (by simp [enterScanning_eq]) (by simp [enterScanning_eq]),
    formLine_congr h.plans (by simp [enterScanning_eq]), enterScanning_eq]
  rfl

theorem started_startScan (s : State) : started (startScan s) := started_enterScanning _

/-- What is in flight after a cell boundary: the scan as it was, or with its first formed cell in transmission. -/
theorem beginNext_scan {sc : Scan} (hs : s.engine.scan = some sc) : ∃ cells, (beginNext s).engine.scan =
    some { sc with cells := cells } ∧ (cells = sc.cells ∨ ∃ c, sc.cells = c :: cells ∧ (beginNext s).d.tx = some c) := by
  obtain ⟨-, -, h | ⟨sc', c, rest, hsc, hcells, htx, he⟩⟩ := begins_beginNext s
  · exact ⟨sc.cells, by rw [h, hs], .inl rfl⟩
  · obtain rfl : sc = sc' := Option.some.inj (hs.symm.trans hsc)
    exact ⟨rest, by rw [he], .inr ⟨c, hcells, htx⟩⟩

theorem sameBound_beginNext (s : State) : SameBound s (beginNext s) := by
  have h := touches_beginNext (.refl [.d, .engine, .query] s) (by simp)
  obtain ⟨-, -, he | ⟨sc', c, rest, -, -, -, he⟩⟩ := begins_beginNext s
  all_goals
    exact ⟨h .tiles (by simp), h .plans (by simp), h .bands (by simp), h .records (by simp), h .settings (by simp),
      by rw [he], by rw [he]⟩

/-- A free transmitter whose next cell no query takes begins a cell of the scan. -/
theorem beginNext_of_free (htx : s.d.tx = none) (hr : s.restart = none)
    (hq : ∀ q, (beginNext s).query.outstanding = some q → q.phase ≠ .sending) : beginNext s = beginScanCell s := by
  have hbusy : (s.d.tx.isSome || restartDue s) = false := by simp [htx, restartDue, hr]
  have hwait : ∀ q, s.query.outstanding = some q → q.phase ≠ .waiting := fun q ho hw => by
    have hn : (beginNext s).query = { s.query with outstanding := some { q with phase := .sending } } := by
      rw [beginNext_query, QueryUnit.begun_of_waiting ho hw, nextPhase_eq, hbusy]
      rfl
    exact hq { q with phase := .sending } (by rw [hn]) rfl
  rw [beginNext, hbusy]
  simp only [Bool.false_eq_true, if_false]
  split
  · next q ho => rw [if_neg (hwait q ho)]
  · rfl

theorem beginScanCell_of_cells {sc : Scan} {c : Cell} {rest : List Cell} (hs : s.engine.scan = some sc)
    (hc : sc.cells = c :: rest) :
    beginScanCell s = transmit c (s.withEngine { s.engine with scan := some { sc with cells := rest } }) := by
  rw [beginScanCell, hs]
  dsimp only
  rw [hc]

theorem beginScanCell_of_end {sc : Scan} (hs : s.engine.scan = some sc) (hc : sc.cells = []) (hend : 16 ≤ sc.slot) :
    beginScanCell s = transmit (showCell s) s := by
  rw [beginScanCell, hs]
  dsimp only
  rw [hc]
  exact if_pos hend

/-- The fresh scan when no slot is sent. -/
theorem freshScan_of_none (h : ∀ k, ((bind s).slots.get k).sent = none) :
    freshScan s = ⟨bind s, Table.replicate 16 0, 16, 0, []⟩ := by
  rw [freshScan, nextSent_of_none h, formLine_of_end (le_refl 16)]

/-- The fresh scan whose first sent slot is `k`. -/
theorem freshScan_of_first {k : SlotId} {c : SentCopy} {z : BoundSize} (hc : ((bind s).slots.get k).sent = some c)
    (hlt : ∀ j, j < k → ((bind s).slots.get j).sent = none) (hz : ((bind s).slots.get k).size = some z) :
    freshScan s = ⟨bind s, (Table.replicate 16 0).set k (formedLine s (bind s) k c z 0).2,
      (nextPlace (bind s) k z.height 0).1, (nextPlace (bind s) k z.height 0).2, (formedLine s (bind s) k c z 0).1⟩ := by
  have hslot : (⟨bind s, Table.replicate 16 0, nextSent (bind s) 0, 0, []⟩ : Scan).slot = k.val :=
    nextSent_zero_of_first (by rw [hc]; rfl) hlt
  rw [freshScan, formLine_of_slot hslot hc hz]
  simp only [Table.get_replicate, Nat.zero_add]

/-- R48, R50, R115: the scan in flight after the first cell boundary of a scan just started. -/
theorem scanJustStarted_beginNext (hs : started s) {sc : Scan} (hsc : (beginNext s).engine.scan = some sc) :
    boundFrom (beginNext s) sc.binding ∧ scanJustStarted (s.d.tx = none) (beginNext s) sc := by
  obtain ⟨cells, hcells, hbegun⟩ := beginNext_scan hs
  obtain rfl := Option.some.inj (hcells.symm.trans hsc)
  have hbind : (freshScan s).binding = bind s := formLine_binding _ _
  have htouch := touches_beginNext (.refl [.d, .engine, .query] s) (by simp)
  have hrestart : (beginNext s).restart = s.restart := htouch .restart (by simp)
  have hline : ∀ b k c z y, formedLine (beginNext s) b k c z y = formedLine s b k c z y :=
    formedLine_congr (htouch .plans (by simp)) (htouch .shown (by simp))
  have hfree : s.d.tx = none ∧ (beginNext s).restart = none ∧
      (∀ q, (beginNext s).query.outstanding = some q → q.phase ≠ .sending) → beginNext s = beginScanCell s :=
    fun ⟨h1, h2, h3⟩ => beginNext_of_free h1 (hrestart ▸ h2) h3
  refine ⟨?_, ?_⟩
  · dsimp only
    rw [hbind]
    exact boundFrom_congr (sameBound_beginNext s) (boundFrom_bind s)
  · dsimp only [scanJustStarted]
    rw [hbind]
    refine ⟨fun hnone => ?_, fun k c z hc hlt hz hw => ?_⟩
    · have hfresh := freshScan_of_none hnone
      have hempty : cells = [] := by
        rcases hbegun with h | ⟨c, h, -⟩
        · rw [h, hfresh]
        · rw [hfresh] at h
          exact nomatch h
      refine ⟨by rw [hfresh], by rw [hfresh], hempty, fun hgo => ?_⟩
      rw [hfree hgo, beginScanCell_of_end hs (by rw [hfresh]) (by rw [hfresh])]
      simp [transmit, showCell, kindTileShow]
    · have hfresh := freshScan_of_first hc hlt hz
      obtain ⟨first, rest, hfirst⟩ := exists_cons_of_formedLine (s := s) (b := bind s) (k := k) (c := c) (y := 0) hw
      rw [hline]
      refine ⟨by rw [hfresh], fun hh => ?_, ?_, fun hgo => ?_⟩
      · rw [hfresh]
        simp [nextPlace, hh]
      · rcases hbegun with h | ⟨x, h, htx⟩
        · exact .inl (by rw [h, hfresh])
        · rw [hfresh] at h
          exact .inr ⟨x, h, htx⟩
      · have hcell := beginScanCell_of_cells hs (c := first) (rest := rest) (by rw [hfresh]; exact hfirst)
        rw [hfree hgo, hcell] at hcells ⊢
        have hrest : cells = rest := by
          have := congrArg (Option.map Scan.cells) hcells
          simpa [transmit] using this.symm
        exact ⟨first, by rw [hrest]; exact hfirst, by simp [transmit]⟩

end Sys2Proof.Machine
end

section
/-! PROOFS. The commands that start a scan or form its lines (R36, R39, R46, R50, R54): O17, O21, O23. -/

namespace Sys2Proof.Machine

variable {s t u w : State}

/-! ## What a scan start leaves -/

/-- The state after the swap of a scan start, if a READY frame exists. -/
def swapped (s : State) : State := if s.receiver.ready then swap s else s

theorem swapped_of_ready (h : s.receiver.ready = true) : swapped s = swap s := if_pos h

theorem swapped_of_not_ready (h : s.receiver.ready = false) : swapped s = s := if_neg (by simp [h])

theorem touches_swapped (s : State) : Touches [.shown, .incoming, .receiver, .engine] s (swapped s) := by
  unfold swapped
  split
  · exact touches_swap (.refl _ s) (by simp)
  · exact .refl _ s

theorem swapped_engine (s : State) : (swapped s).engine.number = s.engine.number ∧ (swapped s).engine.blank = s.engine.blank ∧
    (swapped s).engine.deferredBlanks = s.engine.deferredBlanks := by
  unfold swapped
  split <;> simp [swap]

/-- The part of a scan start between the swap and the new binding. -/
def slewedAndLevelled (s : State) : State := formLevel (slewAll s)

theorem startScan_eq (s : State) : startScan s = enterScanning (slewedAndLevelled (swapped s)) := rfl

theorem touches_slewedAndLevelled (s : State) : Touches [.drift, .level, .causes] s (slewedAndLevelled s) :=
  touches_formLevel (touches_slewAll (.refl _ s) (by simp)) (by simp)

/-- R47: the engine a scan start leaves. -/
theorem startScan_engine_eq (s : State) : (startScan s).engine = { (swapped s).engine with
    scan := (startScan s).engine.scan, number := s.engine.number + 1, repeatStart := none } := by
  have he : (slewedAndLevelled (swapped s)).engine = (swapped s).engine := touches_slewedAndLevelled _ .engine (by simp)
  rw [startScan_eq, enterScanning_eq]
  simp only [State.withEngine_fields, he, (swapped_engine s).1]

theorem touches_startScan_swapped (s : State) : Touches [.drift, .level, .causes, .engine] (swapped s) (startScan s) := by
  rw [startScan_eq]
  exact touches_enterScanning ((touches_slewedAndLevelled _).mono (by simp)) (by simp)

theorem startScan_scope (s : State) :
    Touches [.shown, .incoming, .receiver, .engine, .drift, .level, .causes] s (startScan s) :=
  touches_startScan (.refl _ s) (by simp)

/-- R36, R53: the shown images, the display state and the hold timer after a scan start with a READY frame. -/
theorem startScan_of_ready (h : s.receiver.ready = true) : (startScan s).engine.display = .live ∧
    (startScan s).engine.holdStart = s.clock ∧
    ∀ k, (startScan s).shown.get k = if (s.plans.get k).isCanvas then s.incoming.get k else s.shown.get k := by
  have hsw := swapped_of_ready h
  refine ⟨?_, ?_, fun k => ?_⟩
  · rw [startScan_engine_eq, hsw]
    simp [swap]
  · rw [startScan_engine_eq, hsw]
    simp [swap]
  · rw [show (startScan s).shown = (swapped s).shown from touches_startScan_swapped s .shown (by simp), hsw]
    simp [swap]

/-- Without a READY frame a scan start shows what was shown. -/
theorem startScan_of_not_ready (h : s.receiver.ready = false) :
    (startScan s).engine.display = s.engine.display ∧ (startScan s).engine.holdStart = s.engine.holdStart ∧
    Touches [.drift, .level, .causes, .engine] s (startScan s) := by
  have ht := touches_startScan_swapped s
  rw [startScan_engine_eq]
  rw [swapped_of_not_ready h] at ht ⊢
  exact ⟨rfl, rfl, ht⟩

/-- The engine's part that neither a scan start nor a cell boundary changes, and the number, which rises by one. -/
theorem startScan_engine_fields (s : State) : (startScan s).engine.number = s.engine.number + 1 ∧
    (startScan s).engine.repeatStart = none ∧ (startScan s).engine.blank = s.engine.blank ∧
    (startScan s).engine.deferredBlanks = s.engine.deferredBlanks := by
  obtain ⟨-, h2, h3⟩ := swapped_engine s
  rw [startScan_engine_eq]
  exact ⟨rfl, rfl, h2, h3⟩

/-- A cell boundary changes of the engine the formed cells of its scan alone. -/
theorem beginNext_engine (s : State) : (beginNext s).engine = { s.engine with scan := (beginNext s).engine.scan } ∧
    (beginNext s).engine.scan.isSome = s.engine.scan.isSome := by
  obtain ⟨-, -, he | ⟨sc, c, rest, hsc, -, -, he⟩⟩ := begins_beginNext s
  · rw [he]
    exact ⟨rfl, rfl⟩
  · rw [he, hsc]
    exact ⟨rfl, rfl⟩

/-- A cell boundary keeps the display state, the hold timer and the shown images. -/
theorem beginNext_display (s : State) : (beginNext s).engine.display = s.engine.display ∧
    (beginNext s).engine.holdStart = s.engine.holdStart ∧ (beginNext s).shown = s.shown := by
  have hengine := (beginNext_engine s).1
  exact ⟨by rw [hengine], by rw [hengine], touches_beginNext (.refl [.d, .engine, .query] s) (by simp) .shown (by simp)⟩

/-- R47, R48, R50: a scan start followed by a cell boundary. -/
theorem beginNext_startScan (s : State) :
    (beginNext (startScan s)).engine.scan.isSome = true ∧
    (beginNext (startScan s)).engine.number = s.engine.number + 1 ∧
    (beginNext (startScan s)).engine.repeatStart = none ∧
    (beginNext (startScan s)).engine.blank = s.engine.blank ∧
    (beginNext (startScan s)).receiver = { s.receiver with ready := false } ∧
    (beginNext (startScan s)).d = { s.d with tx := (beginNext (startScan s)).d.tx } ∧
    (s.d.tx.isSome = true → (beginNext (startScan s)).d.tx = s.d.tx) ∧
    (∀ sc, (beginNext (startScan s)).engine.scan = some sc →
      boundFrom (beginNext (startScan s)) sc.binding ∧ scanJustStarted (s.d.tx = none) (beginNext (startScan s)) sc) ∧
    Touches [.shown, .incoming, .receiver, .engine, .drift, .level, .causes, .d, .query] s (beginNext (startScan s)) := by
  obtain ⟨hnumber, hrepeat, hblank, -⟩ := startScan_engine_fields s
  have hsome := (startScan_engine s).1
  have hready := startScan_receiver s
  have hscope := startScan_scope s
  have hd : (startScan s).d = s.d := startScan_scope s .d (by simp)
  have hstarted := started_startScan s
  generalize startScan s = v at *
  obtain ⟨hengine, hscan⟩ := beginNext_engine v
  have htouch := touches_beginNext (.refl [.d, .engine, .query] v) (by simp)
  obtain ⟨hbd, hbtx, -⟩ := begins_beginNext v
  have hrec : (beginNext v).receiver = v.receiver := htouch .receiver (by simp)
  rw [hd] at hbd hbtx
  refine ⟨hscan.trans hsome, by rw [hengine]; exact hnumber, by rw [hengine]; exact hrepeat,
    by rw [hengine]; exact hblank, hrec.trans hready, hbd, hbtx, fun sc hsc => ?_,
    (hscope.mono (by simp)).then htouch (by simp)⟩
  have := scanJustStarted_beginNext hstarted hsc
  rwa [hd] at this

/-! ## FRAME-CLOSE of the active source -/

/-- The tracker of an UP port takes a FRAME-CLOSE: its frame is completed or closed, and the port stays as it is. -/
theorem trackClose_of_up {p : Up} {n : W16} (hs : (s.up p).state = .up) :
    ∃ x, trackClose p n s = s.withUp p x ∧
      (∀ f, (s.up p).openFrame = some f → f.number = n → x = (s.up p).completed) ∧
      ((∀ f, (s.up p).openFrame = some f → f.number ≠ n) → x = (s.up p).uncompleted) := by
  by_cases h : ∃ f, (s.up p).openFrame = some f ∧ f.number = n
  · obtain ⟨f, hf, hn⟩ := h
    refine ⟨(s.up p).completed, ?_, fun _ _ _ => rfl, fun hno => absurd hn (hno f hf)⟩
    rw [trackClose_of_match hf hn, tryUp_of_not]
    rw [State.withUp_up_self]
    rintro ⟨h1, -⟩
    have h1' : (s.up p).state = .aligned := h1
    rw [hs] at h1'
    exact nomatch h1'
  · have hno : ∀ f, (s.up p).openFrame = some f → f.number ≠ n := fun f hf hn => h ⟨f, hf, hn⟩
    exact ⟨(s.up p).uncompleted, trackClose_of_no_match hno, fun f hf hn => absurd hn (hno f hf), fun _ => rfl⟩

theorem carrySwitch_of_none (h : s.selector.toSwitch = none) : carrySwitch s = s := by
  rw [carrySwitch, h]

theorem carrySwitch_of_some {q : Up} (h : s.selector.toSwitch = some q) (hr : s.receiving = false) :
    carrySwitch s = raise .sourceSwitch none (s.withSelector ⟨some q, none⟩) := by
  rw [carrySwitch, h]
  dsimp only
  rw [hr]
  rfl

theorem receiveClose_of_idle (m : W16) (h : s.receiver.phase = .idle) : receiveClose m s = raise .frameSeq none s := by
  rw [receiveClose, h]

theorem receiveClose_of_ne {m n : W16} {at_ : Nat} (h : s.receiver.phase = .receiving m at_) (hne : m ≠ n) :
    receiveClose n s = carrySwitch (raise .frameSeq none
      ((s.withIncoming (Table.replicate 16 [])).withReceiver { s.receiver with phase := .idle })) := by
  rw [receiveClose, h]
  dsimp only
  rw [if_neg (Ne.symm hne), abandonFrame_of_receiving (by rw [State.receiving, h])]

theorem receiveClose_of_eq {n : W16} {at_ : Nat} (h : s.receiver.phase = .receiving n at_) :
    receiveClose n s = frameReady (carrySwitch (s.withReceiver ⟨.idle, true⟩)) := by
  rw [receiveClose, h]
  exact if_pos rfl

theorem frameReady_of_scan (h : s.engine.scan.isSome = true) : frameReady s = s := by
  rw [frameReady, if_neg]
  rw [Option.isNone_iff_eq_none]
  intro hn
  rw [hn] at h
  exact nomatch h

theorem frameReady_of_none (h : s.engine.scan = none) : frameReady s = beginNext (startScan s) := by
  rw [frameReady, h]
  exact if_pos rfl

/-- Settles O17. -/
theorem frameCloseEndsFrame : Obligations.FrameCloseEndsFrame := by
  unfold Obligations.FrameCloseEndsFrame
  intro p n s hl ha hs
  have hheard := heard_up_self s p
  obtain ⟨x, hclose, hmatch, hno⟩ := trackClose_of_up (s := s.heard p) (p := p) (n := n) (by rw [hheard]; exact hs)
  have hw : trackClose p n (s.heard p) = s.withUp p x := by rw [hclose, State.heard, State.withUp_withUp]
  rw [exec_frameClose n hl, if_pos ha, hw]
  have hup : (receiveClose n (s.withUp p x)).up p = x :=
    (touches_receiveClose n (.refl [.selector, .shown, .incoming, .receiver, .engine, .drift, .level, .d, .query, .causes] _)
      (by simp) (.up p) (by simp)).trans (State.withUp_up_self _ _ _)
  have hphase : (s.withUp p x).receiver = s.receiver := by simp
  have hsel : (s.withUp p x).selector = s.selector := by simp
  have hframe : ((s.heard p).up p).openFrame = (s.up p).openFrame := by rw [hheard]
  refine ⟨_, rfl, fun f hf hn => ?_, fun h => ?_, fun hr => ?_, fun m at_ hr hne => ?_, fun at_ hr hsc => ?_,
    fun at_ hr hsc => ?_⟩
  · rw [hup, hmatch f (hframe.trans hf) hn]
    simp [Upstream.completed]
  · rw [hup, hno fun f hf => h f (hframe ▸ hf)]
    rfl
  · rw [hup, receiveClose_of_idle n (by rw [hphase]; exact hr)]
  · rw [hup, receiveClose_of_ne (by rw [hphase]; exact hr) hne, hphase]
    refine ⟨fun hp => carrySwitch_of_none (by simp [raise, hp]), fun q hq => ?_⟩
    exact carrySwitch_of_some (by simp [raise, hq]) (by simp [State.receiving, raise])
  · rw [hup, receiveClose_of_eq (by rw [hphase]; exact hr), frameReady_of_scan (by rw [carrySwitch_engine]; simpa using hsc)]
    refine ⟨fun hp => carrySwitch_of_none (by simp [hp]), fun q hq => ?_⟩
    exact carrySwitch_of_some (by simp [hq]) (by simp [State.receiving])
  · rw [receiveClose_of_eq (by rw [hphase]; exact hr), frameReady_of_none (by rw [carrySwitch_engine]; simpa using hsc)]
    generalize hv : carrySwitch ((s.withUp p x).withReceiver ⟨.idle, true⟩) = v
    have hvt : Touches [.up p, .receiver, .selector, .causes] s v := by
      rw [← hv]
      exact touches_carrySwitch (touches_withReceiver _ (touches_withUp p x (.refl _ s) (by simp)) (by simp)) (by simp)
    have hvrec : v.receiver = ⟨.idle, true⟩ := by rw [← hv, carrySwitch_receiver]; simp
    have hvraised : Raised [.sourceSwitch] s.causes v.causes := by
      rw [← hv]
      exact raised_carrySwitch (by simp) (by simp)
    have hvsel : v.selector = (match s.selector.toSwitch with
        | some q => ⟨some q, none⟩
        | none => s.selector) := by
      rw [← hv]
      cases hq : s.selector.toSwitch with
      | none => rw [carrySwitch_of_none (by simp [hq])]; simp
      | some q => rw [carrySwitch_of_some (q := q) (by simp [hq]) (by simp [State.receiving])]; simp [raise]
    have hvengine : v.engine = s.engine := hvt .engine (by simp)
    have hvd : v.d = s.d := hvt .d (by simp)
    have hvclock : v.clock = s.clock := hvt .clock (by simp)
    have hvplans : v.plans = s.plans := hvt .plans (by simp)
    have hvinc : v.incoming = s.incoming := hvt .incoming (by simp)
    have hvshown : v.shown = s.shown := hvt .shown (by simp)
    obtain ⟨hscan, hnumber, hrepeat, hblank, hrec, hd, htx, hstart, htouch⟩ := beginNext_startScan v
    obtain ⟨hlive, hhold, hshown⟩ := startScan_of_ready (s := v) (by rw [hvrec])
    obtain ⟨hdisplay, hholds, hshows⟩ := beginNext_display (startScan v)
    rw [hvd] at hd htx hstart
    rw [hvengine] at hnumber hblank
    rw [hvclock] at hhold
    refine ⟨by rw [hrec, hvrec], fun k => ?_, hscan, hnumber, hrepeat, hdisplay.trans hlive,
      hholds.trans hhold, hblank, hstart, hd, htx, (hvt.mono (by simp)).then htouch (by simp), ?_, ?_⟩
    · rw [hshows, hshown, hvplans, hvinc, hvshown]
    · refine (Raised.trans (hvraised.mono (by simp)) ?_).raisesOnly
      rw [causes_beginNext]
      exact raised_startScan .refl (by simp)
    · exact (htouch .selector (by simp)).trans hvsel

/-! ## The next cell -/

theorem exec_tilePixelsSent {c : Cell} (hc : s.d.tx = some c) (hk : c.kind = 0x40) :
    exec .tilePixelsSent s = .next (beginNext (formIfNeeded (s.withD { s.d with tx := none }))) := by
  have htx : txIs s kindTilePixels = true := by
    rw [txIs, hc]
    exact beq_iff_eq.mpr hk
  exact congrArg Host.Outcome.next (if_pos htx)

theorem formIfNeeded_of_cells {sc : Scan} {c : Cell} {rest : List Cell} (hs : s.engine.scan = some sc)
    (hc : sc.cells = c :: rest) : formIfNeeded s = s := by
  rw [formIfNeeded, hs]
  dsimp only
  rw [hc]

theorem formIfNeeded_of_nil {sc : Scan} (hs : s.engine.scan = some sc) (hc : sc.cells = []) :
    formIfNeeded s = s.withEngine { s.engine with scan := some (sc.formLine s) } := by
  rw [formIfNeeded, hs]
  dsimp only
  rw [hc]

/-- With nothing in transmission, no restart waiting and no query waiting, the scan's next cell begins. -/
theorem beginNext_of_no_query (htx : s.d.tx = none) (hr : s.restart = none)
    (hq : ∀ q, s.query.outstanding = some q → q.phase ≠ .waiting) : beginNext s = beginScanCell s := by
  have hbusy : (s.d.tx.isSome || restartDue s) = false := by simp [htx, restartDue, hr]
  rw [beginNext, hbusy]
  simp only [Bool.false_eq_true, if_false]
  split
  · next q ho => rw [if_neg (hq q ho)]
  · rfl

theorem beginNext_of_query {q : Query} (htx : s.d.tx = none) (hr : s.restart = none)
    (ho : s.query.outstanding = some q) (hw : q.phase = .waiting) : beginNext s =
      transmit (queryCell q) (s.withQuery { s.query with outstanding := some { q with phase := .sending } }) := by
  have hbusy : (s.d.tx.isSome || restartDue s) = false := by simp [htx, restartDue, hr]
  rw [beginNext, hbusy]
  simp only [Bool.false_eq_true, if_false]
  rw [ho]
  exact if_pos hw

theorem nextPlace_spec (b : Binding) (k : SlotId) (height y : Nat) :
    (y + 1 < height → (nextPlace b k height y).1 = k.val ∧ (nextPlace b k height y).2 = y + 1) ∧
    (height ≤ y + 1 → (nextPlace b k height y).2 = 0 ∧ (nextPlace b k height y).1 = nextSent b (k.val + 1)) := by
  unfold nextPlace
  refine ⟨fun h => by simp [h], fun h => by simp [Nat.not_lt.mpr h]⟩

theorem lt_nextSent_succ (b : Binding) (k : SlotId) : k.val < nextSent b (k.val + 1) := by
  by_contra h
  have hlt : nextSent b (k.val + 1) < 16 := by have := k.isLt; omega
  have := ((nextSent_spec b (k.val + 1)).2 ⟨_, hlt⟩ rfl).1
  dsimp only at this
  omega

/-- Settles O21. -/
theorem nextCellFollowsTilePixels : Obligations.NextCellFollowsTilePixels := by
  unfold Obligations.NextCellFollowsTilePixels
  intro c sc s hc hk hsc hr
  rw [exec_tilePixelsSent hc hk]
  have hd : (s.withD { s.d with tx := none }).engine.scan = some sc := by simpa using hsc
  refine ⟨fun c1 rest hcells hq => ?_, fun q ho hkind hw hne => ?_, fun hcells hend hq => ?_,
    fun k x c z hcells hslot hx hsent hz hwidth hq => ?_⟩
  · rw [formIfNeeded_of_cells hd hcells, beginNext_of_no_query (by simp) (by simp [hr]) (by simpa using hq),
      beginScanCell_of_cells hd hcells]
    exact congrArg _ (State.ext_fields (by simp [transmit]))
  · obtain ⟨c1, rest, hcells⟩ := List.exists_cons_of_ne_nil hne
    rw [formIfNeeded_of_cells hd hcells, beginNext_of_query (by simp) (by simp [hr]) (by simpa using ho) hw]
    exact congrArg _ (State.ext_fields (by simp [transmit, queryCell, hkind, kindProbe, byte1]))
  · have hform : sc.formLine (s.withD { s.d with tx := none }) = sc := formLine_of_end (by omega)
    rw [formIfNeeded_of_nil hd hcells, hform, beginNext_of_no_query (by simp) (by simp [hr]) (by simpa using hq),
      beginScanCell_of_end (sc := sc) (by simp) hcells (by omega)]
    exact congrArg _ (State.ext_fields (by simp [transmit, showCell, kindTileShow, ← hsc]))
  · subst hx
    have hform := formLine_of_slot (s := s.withD { s.d with tx := none }) hslot hsent hz
    rw [formedLine_congr (s := s) (by simp) (by simp)] at hform
    obtain ⟨c0, rest, hline⟩ := exists_cons_of_formedLine (s := s) (b := sc.binding) (k := k) (c := c) (y := sc.line) hwidth
    obtain ⟨hsame, hnext⟩ := nextPlace_spec sc.binding k z.height sc.line
    obtain ⟨hnone, hsome⟩ := nextSent_spec sc.binding (k.val + 1)
    refine ⟨c0, rest, _, _, hline, hsame, fun h => ?_, ?_⟩
    · obtain ⟨hzero, hplace⟩ := hnext h
      rw [hplace]
      exact ⟨hzero, lt_nextSent_succ _ _, nextSent_le _ _, fun j hj hlt => hnone j hj hlt, fun j hj => (hsome j hj).2⟩
    · generalize hf : sc.formLine (s.withD { s.d with tx := none }) = f at hform
      rw [formIfNeeded_of_nil hd hcells, hf, beginNext_of_no_query (by simp) (by simp [hr]) (by simpa using hq),
        beginScanCell_of_cells (sc := f) (c := c0) (rest := rest) (by simp) (by rw [hform]; exact hline), hform]
      exact congrArg _ (State.ext_fields (by simp [transmit]))

/-! ## BLANKn -/

theorem showBegun_eq_false (h : ∀ c, s.d.tx = some c → c.kind ≠ 0x41) : showBegun s = false := by
  unfold showBegun
  split
  · next c hc => exact beq_false_of_ne (h c hc)
  · rfl

theorem showBegun_eq_true {c : Cell} (hc : s.d.tx = some c) (hk : c.kind = 0x41) : showBegun s = true := by
  rw [showBegun, hc]
  exact beq_iff_eq.mpr hk

/-- Settles O23. -/
theorem blanknAssertionStartsBlackScan : Obligations.BlanknAssertionStartsBlackScan := by
  unfold Obligations.BlanknAssertionStartsBlackScan
  intro s hb
  have hexec : exec .blanknAssertion s = .next (assertBlank s) := congrArg Host.Outcome.next (if_neg (by simp [hb]))
  rw [hexec]
  refine ⟨fun hc => ?_, fun c hc hk => ?_⟩
  · have hshow : showBegun (s.withEngine { s.engine with blank := true }) = false :=
      showBegun_eq_false (by simpa using hc)
    have hassert : assertBlank s = beginNext (startScan (abortScan (s.withEngine { s.engine with blank := true }))) := by
      rw [assertBlank]
      exact if_neg (by rw [hshow]; exact nofun)
    rw [hassert]
    generalize hv : abortScan (s.withEngine { s.engine with blank := true }) = v
    have hvt : Touches [.engine] s v := by
      rw [← hv]
      exact touches_abortScan (touches_withEngine _ (.refl _ s) (by simp)) (by simp)
    have hvblank : v.engine.blank = true := by rw [← hv]; simp [abortScan]
    have hvnumber : v.engine.number = s.engine.number := by rw [← hv]; simp [abortScan]
    have hvd : v.d = s.d := hvt .d (by simp)
    obtain ⟨hscan, hnumber, hrepeat, hblank, hrec, hd, htx, hstart, htouch⟩ := beginNext_startScan v
    rw [hvd] at hd htx hstart
    rw [hvblank] at hblank
    obtain ⟨sc, hsc⟩ := Option.isSome_iff_exists.mp hscan
    obtain ⟨hbound, hjust⟩ := hstart sc hsc
    have hbinding : sc.binding.blank = true := hbound.2.2.2.1.trans hblank
    refine ⟨_, rfl, hblank, ⟨sc, hsc, hbinding, hbound, hjust⟩, by rw [hnumber, hvnumber], hrepeat, by rw [hrec], hd, htx,
      (hvt.mono (by simp)).then htouch (by simp), ?_⟩
    refine Raised.raisesOnly ?_
    rw [causes_beginNext, ← hvt.causes_eq]
    exact raised_startScan .refl (by simp)
  · have hshow : showBegun (s.withEngine { s.engine with blank := true }) = true :=
      showBegun_eq_true (by simpa using hc) hk
    refine ⟨fun hr => ?_, fun w hr => ?_⟩
    · have hr' : (s.withEngine { s.engine with blank := true }).restart = none := by simpa using hr
      rw [assertBlank]
      dsimp only
      rw [hshow, hr']
      rfl
    · have hr' : (s.withEngine { s.engine with blank := true }).restart = some w := by simpa using hr
      rw [assertBlank]
      dsimp only
      rw [hshow, hr']
      rfl

end Sys2Proof.Machine
end

section
/-! PROOFS. Levels and gains at a scan start (R46, R109, R110, R154, R159 to R162): O19, O20. -/

namespace Sys2Proof.Machine

variable {s t u : State}

/-! ## The smallest channel headroom -/

/-- `best` is the smallest of the headrooms in `seen`, with the lowest slot that has it. -/
def isSmallest (seen : List (SlotId × Nat)) (best : Option (Nat × SlotId)) : Prop :=
  (best = none → seen = []) ∧
  ∀ h k, best = some (h, k) → (k, h) ∈ seen ∧ ∀ p ∈ seen, h ≤ p.2 ∧ (p.2 = h → k ≤ p.1)

theorem isSmallest_limitStep {seen : List (SlotId × Nat)} {best : Option (Nat × SlotId)} (hs : isSmallest seen best)
    {k : SlotId} (hk : ∀ p ∈ seen, p.1 ≤ k) (h : Nat) : isSmallest (seen ++ [(k, h)]) (limitStep k best h) := by
  obtain ⟨hnone, hsome⟩ := hs
  cases best with
  | none =>
    rw [hnone rfl]
    refine ⟨fun hn => (nomatch hn), fun h' k' heq => ?_⟩
    obtain ⟨rfl, rfl⟩ : h = h' ∧ k = k' := by simpa [limitStep] using heq
    simp
  | some b =>
    obtain ⟨hmem, hleast⟩ := hsome b.1 b.2 rfl
    unfold limitStep
    dsimp only
    split
    · next hlt =>
      refine ⟨fun hn => (nomatch hn), fun h' k' heq => ?_⟩
      obtain ⟨rfl, rfl⟩ : h = h' ∧ k = k' := by simpa using heq
      refine ⟨by simp, fun p hp => ?_⟩
      rcases List.mem_append.mp hp with hp | hp
      · have := (hleast p hp).1
        exact ⟨by omega, fun he => by omega⟩
      · rw [List.mem_singleton.mp hp]
        exact ⟨le_rfl, fun _ => le_rfl⟩
    · next hge =>
      refine ⟨fun hn => (nomatch hn), fun h' k' heq => ?_⟩
      obtain rfl : b = (h', k') := Option.some.inj heq
      refine ⟨List.mem_append_left _ hmem, fun p hp => ?_⟩
      rcases List.mem_append.mp hp with hp | hp
      · exact hleast p hp
      · rw [List.mem_singleton.mp hp]
        exact ⟨Nat.le_of_not_lt hge, fun _ => hk _ hmem⟩

/-- The headrooms of one slot, as pairs. -/
def slotPairs (s : State) (k : SlotId) : List (SlotId × Nat) := (slotHeadrooms s k).map fun h => (k, h)

theorem isSmallest_slot {seen : List (SlotId × Nat)} {best : Option (Nat × SlotId)} (hs : isSmallest seen best) {k : SlotId}
    (hk : ∀ p ∈ seen, p.1 ≤ k) (hs' : List Nat) :
    isSmallest (seen ++ hs'.map fun h => (k, h)) (hs'.foldl (limitStep k) best) := by
  induction hs' generalizing seen best with
  | nil => simpa using hs
  | cons h rest ih =>
    have hstep := ih (isSmallest_limitStep hs hk h) fun p hp => by
      rcases List.mem_append.mp hp with hp | hp
      · exact hk p hp
      · rw [List.mem_singleton.mp hp]
    simpa using hstep

theorem isSmallest_slots (s : State) {seen : List (SlotId × Nat)} {best : Option (Nat × SlotId)} (hs : isSmallest seen best)
    {l : List SlotId} (hl : l.Pairwise (· < ·)) (hk : ∀ p ∈ seen, ∀ k ∈ l, p.1 ≤ k) :
    isSmallest (seen ++ l.flatMap (slotPairs s)) (l.foldl (fun best k => (slotHeadrooms s k).foldl (limitStep k) best) best) := by
  induction l generalizing seen best with
  | nil => simpa using hs
  | cons k l ih =>
    obtain ⟨hlt, hl⟩ := List.pairwise_cons.mp hl
    have hstep := ih (isSmallest_slot hs (fun p hp => hk p hp k List.mem_cons_self) (slotHeadrooms s k)) hl fun p hp j hj => by
      rcases List.mem_append.mp hp with hp | hp
      · exact hk p hp j (List.mem_cons_of_mem k hj)
      · obtain ⟨h, -, rfl⟩ := List.mem_map.mp hp
        exact (hlt j hj).le
    rw [List.flatMap_cons, ← List.append_assoc]
    exact hstep

theorem isSmallest_smallestHeadroom (s : State) : isSmallest (allSlots.flatMap (slotPairs s)) (smallestHeadroom s) := by
  have h := isSmallest_slots s (seen := []) (best := none) ⟨fun _ => rfl, fun _ _ h => nomatch h⟩
    (l := allSlots) (by decide) (fun p hp => nomatch hp)
  exact h

theorem mem_allPairs {k : SlotId} {h : Nat} : (k, h) ∈ allSlots.flatMap (slotPairs s) ↔ h ∈ slotHeadrooms s k := by
  simp only [List.mem_flatMap, slotPairs, List.mem_map, Prod.mk.injEq]
  exact ⟨fun ⟨_, _, _, hh, rfl, rfl⟩ => hh, fun hh => ⟨k, mem_allSlots k, h, hh, rfl, rfl⟩⟩

/-! ## The run headroom -/

/-- R98, R159: the uniformity gains are those of the calibration a slot is corrected with. -/
theorem gains_slotCalibration (s : State) (k : SlotId) : (slotCalibration s k).gains = uniformityOf s k := by
  unfold slotCalibration boundRecord uniformityOf
  cases (s.tile k).presence <;> cases hf : (s.tile k).facts <;> try rfl
  next f =>
    dsimp only [Option.bind]
    cases findRecord s.records f.serial <;> rfl

theorem channelHeadroom_eq_some {a b v : Nat} : channelHeadroom a b = some v ↔ a * b ≠ 0 ∧ v = 2 ^ 44 / (a * b) := by
  unfold channelHeadroom
  split
  · next h => simp [h]
  · next h => simp [h, eq_comm]

/-- What bounds the run headroom, as `headroomIs` writes it. -/
theorem mem_slotHeadrooms {k : SlotId} {v : Nat} : v ∈ slotHeadrooms s k ↔
    (((s.tile k).presence = .matched ∨ (s.tile k).presence = .unknown) ∧ (s.plans.get k).dark = false) ∧
    ∃ x ∈ ((uniformityOf s k).zip (fun u a => u * a) (s.drift.get k).applied).toList, x ≠ 0 ∧ v = 2 ^ 44 / x := by
  have hsent : (s.tile k).presence.isSent = true ↔ (s.tile k).presence = .matched ∨ (s.tile k).presence = .unknown := by
    cases (s.tile k).presence <;> simp [Presence.isSent]
  unfold slotHeadrooms counted
  simp only [Bool.and_eq_true, Bool.not_eq_true', hsent, gains_slotCalibration]
  split
  · next h =>
    simp only [h, and_self, true_and, List.mem_filterMap, id_eq, exists_eq_right, Rgb.zip, Rgb.toList, List.mem_cons,
      List.not_mem_nil, or_false, eq_comm (a := some v), channelHeadroom_eq_some, exists_eq_or_imp, exists_eq_left]
  · next h => simp [h]

/-- Settled form of R159, R160: the run headroom and its limiting slot. -/
theorem headroomIs_runLimit (s : State) : headroomIs s (runLimit s).1 (runLimit s).2 := by
  obtain ⟨hnone, hsome⟩ := isSmallest_smallestHeadroom s
  have hbounds : ∀ k v, v ∈ slotHeadrooms s k → (k, v) ∈ allSlots.flatMap (slotPairs s) := fun k v => mem_allPairs.mpr
  unfold headroomIs
  simp only [← mem_slotHeadrooms]
  unfold runLimit
  cases hm : smallestHeadroom s with
  | none =>
    have hempty : ∀ k v, v ∉ slotHeadrooms s k := fun k v hv => by
      have := hbounds k v hv
      rw [hnone hm] at this
      exact nomatch this
    exact ⟨le_rfl, fun k v hv => absurd hv (hempty k v), fun _ => ⟨rfl, fun k v hv => absurd hv (hempty k v)⟩,
      fun k hk => nomatch hk⟩
  | some b =>
    obtain ⟨hmem, hleast⟩ := hsome b.1 b.2 hm
    dsimp only
    split
    · next hle =>
      refine ⟨hle, fun k v hv => (hleast _ (hbounds k v hv)).1, fun hn => (nomatch hn), fun k hk => ?_⟩
      obtain rfl : b.2 = k := Option.some.inj hk
      exact ⟨mem_allPairs.mp hmem, fun j hj hv => absurd ((hleast _ (hbounds j b.1 hv)).2 rfl) (not_le_of_gt hj)⟩
    · next hgt =>
      have hlt : ∀ k v, v ∈ slotHeadrooms s k → 65536 < v := fun k v hv =>
        lt_of_lt_of_le (Nat.lt_of_not_le hgt) (hleast _ (hbounds k v hv)).1
      exact ⟨le_rfl, fun k v hv => (hlt k v hv).le, fun _ => ⟨rfl, hlt⟩, fun k hk => nomatch hk⟩

theorem headroomIs_congr (htiles : t.tiles = s.tiles) (hplans : t.plans = s.plans) (hrecords : t.records = s.records)
    (hset : t.settings = s.settings) (hdrift : t.drift = s.drift) {h : Nat} {limiting : Option SlotId}
    (hs : headroomIs s h limiting) : headroomIs t h limiting := by
  unfold headroomIs uniformityOf at *
  simp only [State.tile, State.setting, htiles, hplans, hrecords, hset, hdrift] at hs ⊢
  exact hs

/-! ## The level a scan start forms -/

theorem formLevel_level (s : State) : (formLevel s).level = { s.level with
    headroom := (runLimit s).1
    effective := effectiveLevel (decide (s.setting 15 = 1)) s.level.wall (runLimit s).1
    limiting := (runLimit s).2 } := by
  unfold formLevel
  dsimp only
  split <;> simp [raise]

theorem formLevel_pending (h : (runLimit s).1 < s.level.wall) :
    ((formLevel s).causes.get Cause.levelOver.number).pending = true := by
  unfold formLevel
  dsimp only
  rw [if_pos h]
  exact raise_pending _ _ _

/-- The state in which a scan start forms the level. -/
def slewed (s : State) : State := slewAll (swapped s)

theorem touches_slewed (s : State) : Touches [.shown, .incoming, .receiver, .engine, .drift] s (slewed s) :=
  touches_slewAll ((touches_swapped s).mono (by simp)) (by simp)

/-- Between the forming of the level and the end of a scan start only the engine changes. -/
theorem touches_formLevel_startScan (s : State) : Touches [.engine] (formLevel (slewed s)) (startScan s) :=
  touches_enterScanning (.refl _ _) (by simp)

/-- R159 to R162: the level formed over `s`, in a state that differs from it in the engine alone besides. -/
theorem level_of_formed (h : Touches [.engine] (formLevel s) t) :
    t.level.wall = s.level.wall ∧
    t.level.effective = (if s.setting 15 = 1 then min s.level.wall t.level.headroom else s.level.wall) ∧
    headroomIs t t.level.headroom t.level.limiting ∧
    (t.level.headroom < s.level.wall → (t.causes.get Cause.levelOver.number).pending = true) := by
  have hlevel : t.level = (formLevel s).level := h .level (by simp)
  have hcauses : t.causes = (formLevel s).causes := h .causes (by simp)
  have hkept : Touches [.level, .causes, .engine] s t := (touches_formLevel (.refl _ s) (by simp)).then h (by simp)
  rw [formLevel_level] at hlevel
  have hhead : headroomIs t (runLimit s).1 (runLimit s).2 :=
    headroomIs_congr (hkept .tiles (by simp)) (hkept .plans (by simp)) (hkept .records (by simp))
      (hkept .settings (by simp)) (hkept .drift (by simp)) (headroomIs_runLimit s)
  rw [hlevel, hcauses]
  exact ⟨rfl, by simp [effectiveLevel], hhead, formLevel_pending⟩

/-- R159 to R162: the level a scan start leaves. -/
theorem startScan_level (s : State) :
    (startScan s).level.wall = s.level.wall ∧
    (startScan s).level.effective =
      (if s.setting 15 = 1 then min s.level.wall (startScan s).level.headroom else s.level.wall) ∧
    headroomIs (startScan s) (startScan s).level.headroom (startScan s).level.limiting ∧
    ((startScan s).level.headroom < s.level.wall → ((startScan s).causes.get Cause.levelOver.number).pending = true) := by
  have hformed := level_of_formed (touches_formLevel_startScan s)
  have hlevel : (slewed s).level = s.level := touches_slewed s .level (by simp)
  have hset : (slewed s).setting 15 = s.setting 15 :=
    congrArg (fun x : Table Int 17 => x.get 15) (touches_slewed s .settings (by simp))
  rwa [hlevel, hset] at hformed

/-! ## The slew -/

theorem slewChannel_eq (step : Int) (a d : Nat) : slewChannel step.toNat a d =
    if (a : Int) - (d : Int) ≤ step ∧ (d : Int) - (a : Int) ≤ step then d
    else if a < d then a + step.toNat else a - step.toNat := by
  unfold slewChannel
  (repeat' split) <;> omega

/-- R154: every identified slot's applied factors are moved toward its targets, and no other drift record changes. -/
theorem slewAll_drift (s : State) (k : SlotId) : (slewAll s).drift.get k =
    if (s.tile k).presence.identified then (s.drift.get k).slewed (s.settingNat 8) else s.drift.get k := by
  have hstep : ∀ (j : SlotId) (u : State), Touches [.drift] u (if (u.tile j).presence.identified then
      u.withDriftOf j ((u.drift.get j).slewed (u.settingNat 8)) else u) := fun j u => by
    split
    · exact touches_withDriftOf _ _ (.refl _ u) (by simp)
    · exact .refl _ u
  refine forSlots_each (Pre := fun k u => u.tiles = s.tiles ∧ u.settings = s.settings ∧ u.drift.get k = s.drift.get k)
    (Post := fun k u => u.drift.get k =
      if (s.tile k).presence.identified then (s.drift.get k).slewed (s.settingNat 8) else s.drift.get k)
    ?_ ?_ ?_ (fun k => ⟨rfl, rfl, rfl⟩) k
  · rintro k u ⟨htiles, hset, hdrift⟩
    rw [State.tile_of_tiles htiles]
    split
    · simp only [State.withDriftOf, State.withDrift_fields, Table.get_set_self, hdrift, State.settingNat, State.setting, hset]
    · exact hdrift
  · rintro j k u hne ⟨htiles, hset, hdrift⟩
    refine ⟨(hstep j u .tiles (by simp)).trans htiles, (hstep j u .settings (by simp)).trans hset, ?_⟩
    split
    · simp only [State.withDriftOf, State.withDrift_fields, Table.get_set_of_ne _ _ hne, hdrift]
    · exact hdrift
  · rintro j k u hne hpost
    split
    · simp only [State.withDriftOf, State.withDrift_fields, Table.get_set_of_ne _ _ hne, hpost]
    · exact hpost

theorem startScan_drift (s : State) (k : SlotId) : (startScan s).drift.get k =
    if (s.tile k).presence.identified then (s.drift.get k).slewed (s.settingNat 8) else s.drift.get k := by
  have hlast := touches_formLevel_startScan s
  have hmid := touches_formLevel (.refl [.level, .causes] (slewed s)) (by simp)
  have hfirst := touches_swapped s
  rw [show (startScan s).drift = (slewed s).drift from (hlast .drift (by simp)).trans (hmid .drift (by simp)), slewed,
    slewAll_drift, State.tile_of_tiles (hfirst .tiles (by simp)), show (swapped s).drift = s.drift from hfirst .drift (by simp),
    State.settingNat, State.setting, show (swapped s).settings = s.settings from hfirst .settings (by simp)]
  rfl

theorem slewed_eq (step : Int) (d : Drift) : d.slewed step.toNat = { d with
    applied := d.applied.zip (fun (a d : Nat) => if (a : Int) - (d : Int) ≤ step ∧ (d : Int) - (a : Int) ≤ step then d
      else if a < d then a + step.toNat else a - step.toNat) d.target } := by
  have h : slewChannel step.toNat = fun (a d : Nat) => if (a : Int) - (d : Int) ≤ step ∧ (d : Int) - (a : Int) ≤ step then d
      else if a < d then a + step.toNat else a - step.toNat := funext fun a => funext fun d => slewChannel_eq step a d
  rw [Drift.slewed, h]

/-- Settles O19. -/
theorem repeatTimerStartsScan : Obligations.RepeatTimerStartsScan := by
  unfold Obligations.RepeatTimerStartsScan
  intro at_ s hsc hrep hle hset hready
  have hexec : exec .repeatTimerExpiry s = .next (if s.expired 4 at_ then beginNext (startScan s) else s) := by
    show Host.Outcome.next (repeatLimit s) = _
    rw [repeatLimit, hrep, hsc]
    rfl
  rw [hexec]
  refine ⟨fun hge => ?_, fun hlt => by rw [expired_eq_false hle hlt]; rfl⟩
  rw [if_pos ((expired_iff hle hset).mpr hge)]
  obtain ⟨hscan, hnumber, hrepeat, hblank, -, hd, htx, hstart, -⟩ := beginNext_startScan s
  obtain ⟨-, -, hsame⟩ := startScan_of_not_ready hready
  obtain ⟨hwall, heff, hhead, hover⟩ := startScan_level s
  have hdrift := startScan_drift s
  have hengine := startScan_engine_eq s
  rw [swapped_of_not_ready hready] at hengine
  have hraised : Raised [.levelOver] s.causes (startScan s).causes := raised_startScan .refl (by simp)
  generalize startScan s = v at *
  have hbe := (beginNext_engine v).1
  have hb := touches_beginNext (.refl [.d, .engine, .query] v) (by simp)
  have hlevel : (beginNext v).level = v.level := hb .level (by simp)
  have hbdrift : (beginNext v).drift = v.drift := hb .drift (by simp)
  have hcauses : (beginNext v).causes = v.causes := hb .causes (by simp)
  have hhead' : headroomIs (beginNext v) v.level.headroom v.level.limiting :=
    headroomIs_congr (hb .tiles (by simp)) (hb .plans (by simp)) (hb .records (by simp)) (hb .settings (by simp))
      (hb .drift (by simp)) hhead
  refine ⟨_, rfl, ?_, hscan, (hsame.mono (by simp)).then hb (by simp), Raised.raisesOnly (by rw [hcauses]; exact hraised), hd,
    htx, by rw [hlevel]; exact hwall, fun k hk => ?_, fun k hk => ?_, by rw [hlevel]; exact heff, by rw [hlevel]; exact hhead.1,
    fun hn => ?_, by rw [hlevel]; exact hhead', hstart, fun h => ?_⟩
  · rw [hbe, hengine]
  · rw [hbdrift, hdrift, if_pos hk]
    exact slewed_eq _ _
  · rw [hbdrift, hdrift, if_neg (by simp [hk])]
  · rw [hlevel] at hn ⊢
    exact (hhead.2.2.1 hn).1
  · rw [hlevel] at h
    rw [hcauses]
    exact hover h

/-! ## Combined gains -/

theorem combinedGain_eq (a b l : Nat) : combinedGain a b l = (a * b * l + 134217728) / 268435456 :=
  roundHalfUp_two_mul (a * b * l) 134217728

/-- R110: an effective level within a channel's headroom holds its combined gain within 1.0. -/
theorem combinedGain_le {a b l : Nat} (h : a * b ≠ 0 → l ≤ 2 ^ 44 / (a * b)) : combinedGain a b l ≤ 65536 := by
  rw [combinedGain_eq]
  by_cases hz : a * b = 0
  · rw [hz]
    omega
  · have hle : a * b * l ≤ 2 ^ 44 := (Nat.mul_le_mul_left _ (h hz)).trans (Nat.mul_div_le _ _)
    omega

/-- Settles O20. -/
theorem combinedGainIsExactAndGuarded : Obligations.CombinedGainIsExactAndGuarded := by
  unfold Obligations.CombinedGainIsExactAndGuarded
  intro s sc k c hsc hc
  obtain ⟨-, heff, ⟨-, hbounds, -⟩, -⟩ := startScan_level s
  have hstarted := started_startScan s
  generalize startScan s = t at *
  obtain rfl : freshScan t = sc := Option.some.inj (hstarted.symm.trans hsc)
  rw [show (freshScan t).binding = bind t from formLine_binding _ _] at hc ⊢
  have hslot : (bind t).slots.get k = bindSlot t k := Table.get_tabulate _ k
  rw [hslot] at hc ⊢
  have hif : (if (t.tile k).presence.isSent then
      some (⟨slotCalibration t k, t.bands.get k, slotGain t k⟩ : SentCopy) else none) = some c := hc
  have hsent : (t.tile k).presence.isSent = true := by
    by_contra h
    rw [if_neg h] at hif
    exact nomatch hif
  obtain rfl := Option.some.inj ((if_pos hsent).symm.trans hif)
  have hgain : slotGain t k = (slotCalibration t k).gains.zip (fun u a => combinedGain u a t.level.effective)
      (t.drift.get k).applied := rfl
  dsimp only
  rw [hgain]
  refine ⟨by simp only [Rgb.zip, combinedGain_eq], fun hguard hdark => ?_⟩
  have hpresence : (t.tile k).presence = .matched ∨ (t.tile k).presence = .unknown := by
    cases hp : (t.tile k).presence <;> simp [hp, Presence.isSent] at hsent ⊢
  have hle : t.level.effective ≤ t.level.headroom := by
    rw [heff, if_pos hguard]
    exact Nat.min_le_right _ _
  have hchannel : ∀ x ∈ ((uniformityOf t k).zip (fun u a => u * a) (t.drift.get k).applied).toList, x ≠ 0 →
      t.level.effective ≤ 2 ^ 44 / x := fun x hx hne =>
    hle.trans (hbounds k _ ⟨⟨hpresence, hdark⟩, x, hx, hne, rfl⟩)
  rw [gains_slotCalibration]
  exact ⟨combinedGain_le (hchannel _ (by simp [Rgb.zip, Rgb.toList])),
    combinedGain_le (hchannel _ (by simp [Rgb.zip, Rgb.toList])),
    combinedGain_le (hchannel _ (by simp [Rgb.zip, Rgb.toList]))⟩

end Sys2Proof.Machine
end

section
/-! PROOFS. The limits, the sent time and the notices (R5, R16, R40, R53, R62, R92, R191): O18, O24, O46. -/

namespace Sys2Proof.Machine

variable {s t u : State}

/-! ## Limits -/

theorem trackerLimit_eq {p : Up} {f : OpenFrame} (hf : (s.up p).openFrame = some f) (hle : f.openedAt ≤ s.clock)
    (hset : 0 ≤ s.setting 2) : trackerLimit p s =
      if s.setting 2 ≤ (s.clock - f.openedAt : Int) then s.withUp p (s.up p).uncompleted else s := by
  rw [trackerLimit, hf]
  exact if_congr (expired_iff hle hset) rfl rfl

theorem closeLate_phase (s : State) : (closeLate s).receiver = s.receiver ∧ (closeLate s).selector = s.selector := by
  unfold closeLate
  (repeat' split) <;> simp

theorem carrySwitch_eq (hr : s.receiving = false) : carrySwitch s = match s.selector.toSwitch with
    | some q => raise .sourceSwitch none (s.withSelector ⟨some q, none⟩)
    | none => s := by
  cases h : s.selector.toSwitch with
  | none => exact carrySwitch_of_none h
  | some q => exact carrySwitch_of_some h hr

theorem receiverLimit_eq {n : W16} {at_ : Nat} (hphase : s.receiver.phase = .receiving n at_) (hle : at_ ≤ s.clock)
    (hset : 0 ≤ s.setting 2) : receiverLimit s =
      if s.setting 2 ≤ (s.clock - at_ : Int) then
        carrySwitch (raise .frameLate none
          (((closeLate s).withIncoming (Table.replicate 16 [])).withReceiver ⟨.idle, s.receiver.ready⟩))
      else s := by
  obtain ⟨hreceiver, -⟩ := closeLate_phase s
  have habandon : abandonFrame (closeLate s) =
      ((closeLate s).withIncoming (Table.replicate 16 [])).withReceiver ⟨.idle, s.receiver.ready⟩ := by
    rw [abandonFrame_of_receiving (by rw [State.receiving, hreceiver, hphase]), hreceiver]
  rw [receiverLimit, hphase, ← habandon]
  exact if_congr (expired_iff hle hset) rfl rfl

/-- Settles O18: each limit compares the time elapsed with its setting (`expired_iff`). -/
theorem limitsActWhenExpired : Obligations.LimitsActWhenExpired := by
  unfold Obligations.LimitsActWhenExpired
  intro s htracker hhold
  refine ⟨fun p f hf hle => congrArg Host.Outcome.next (trackerLimit_eq hf hle htracker), fun n at_ hphase hle => ?_,
    fun hle => ?_, fun l hl _ => ?_⟩
  · dsimp only
    refine congrArg Host.Outcome.next ((receiverLimit_eq hphase hle htracker).trans (if_congr Iff.rfl ?_ rfl))
    rw [carrySwitch_eq (by simp [State.receiving, raise])]
    simp only [raise, State.withCauses_fields, State.withReceiver_fields, State.withIncoming_fields, (closeLate_phase s).2]
    rfl
  · exact congrArg Host.Outcome.next (if_congr (and_congr Iff.rfl (expired_iff hle hhold)) rfl rfl)
  · refine congrArg Host.Outcome.next ?_
    rw [loadLimit, hl]
    rfl

/-! ## The sent time -/

/-- R62: fixing the sent time of a query in transmission, and freeing the transmitter. -/
theorem txDone_fixSent {q : Query} (hq : s.query.outstanding = some q) (hphase : q.phase = .sending) :
    let sent : QueryUnit := { s.query with outstanding := some { q with phase := .sent s.clock } }
    (txDone (fixSent s)).query = sent ∧ Touches [.d, .engine, .query] s (txDone (fixSent s)) ∧
      begins (s.withD { s.d with tx := none }) (txDone (fixSent s)) ∧
      (s.engine.scan = none → txDone (fixSent s) = (s.withQuery sent).withD { s.d with tx := none }) := by
  intro sent
  have hdone : txDone (fixSent s) = beginNext ((s.withQuery sent).withD { s.d with tx := none }) := by
    rw [txDone, fixSent, hq]
    dsimp only
    rw [if_pos hphase]
    rfl
  have hkept : ∀ r, sent.outstanding = some r → r.phase ≠ .waiting := fun r hr hw => by
    obtain rfl := Option.some.inj hr
    exact nomatch hw
  generalize hv : (s.withQuery sent).withD { s.d with tx := none } = v at *
  have hvq : v.query = sent := by rw [← hv]; rfl
  have hvs : Touches [.query, .d] s v := by
    rw [← hv]
    exact touches_withD _ (touches_withQuery _ (.refl _ s) (by simp)) (by simp)
  rw [hdone]
  refine ⟨by rw [beginNext_query, hvq, QueryUnit.begun_of_not_waiting hkept],
    (hvs.mono (by simp)).then (touches_beginNext (.refl [.d, .engine, .query] v) (by simp)) (by simp),
    begins_congr (by rw [← hv]; simp) (by rw [← hv]; simp) (begins_beginNext v), fun hscan => ?_⟩
  have hfree : beginScanCell v = v := by
    rw [beginScanCell, show v.engine = s.engine from hvs .engine (by simp), hscan]
  rw [beginNext, hvq]
  simp only [hfree, sent, reduceCtorEq, if_false, ite_self]

/-- Settles O24. -/
theorem sentTimeIsFixedAtLastByte : Obligations.SentTimeIsFixedAtLastByte := by
  unfold Obligations.SentTimeIsFixedAtLastByte
  intro q c s hq hphase htx
  have hdone := txDone_fixSent hq hphase
  refine ⟨fun hk => ⟨_, congrArg Host.Outcome.next (if_pos ?_), hdone⟩, fun hk => ⟨_, congrArg Host.Outcome.next (if_pos ?_), hdone⟩⟩
  all_goals simp [txIs, htx, hk, kindProbe, kindSenseRequest]

/-! ## The cause an offer chooses -/

/-- `best` is the due cause of `seen` with the highest level, and of those the lowest number. -/
def isChosen (s : State) (seen : List (Fin 16)) : Option (Fin 16) → Prop
  | none => ∀ c ∈ seen, causeDue s c = false
  | some b => causeDue s b = true ∧ b ∈ seen ∧ ∀ e ∈ seen, causeDue s e = true →
      (s.causes.get e).level < (s.causes.get b).level ∨ (s.causes.get e).level = (s.causes.get b).level ∧ b ≤ e

/-- One step of the search. -/
def chooseStep (s : State) (best : Option (Fin 16)) (c : Fin 16) : Option (Fin 16) :=
  if causeDue s c then
    match best with
    | none => some c
    | some b => if (s.causes.get b).level < (s.causes.get c).level then some c else some b
  else best

theorem chosenCause_eq (s : State) : chosenCause s = allSlots.foldl (chooseStep s) none := rfl

theorem isChosen_chooseStep {seen : List (Fin 16)} {best : Option (Fin 16)} (h : isChosen s seen best) {c : Fin 16}
    (hc : ∀ e ∈ seen, e ≤ c) : isChosen s (seen ++ [c]) (chooseStep s best c) := by
  unfold chooseStep
  cases hdue : causeDue s c with
  | false =>
    simp only [Bool.false_eq_true, if_false]
    cases best with
    | none =>
      intro e he
      rcases List.mem_append.mp he with he | he
      · exact h e he
      · rwa [List.mem_singleton.mp he]
    | some b =>
      obtain ⟨hb, hmem, hbest⟩ := h
      refine ⟨hb, List.mem_append_left _ hmem, fun e he hd => ?_⟩
      rcases List.mem_append.mp he with he | he
      · exact hbest e he hd
      · rw [List.mem_singleton.mp he, hdue] at hd
        exact nomatch hd
  | true =>
    simp only [if_true]
    cases best with
    | none =>
      refine ⟨hdue, by simp, fun e he hd => ?_⟩
      rcases List.mem_append.mp he with he | he
      · rw [h e he] at hd
        exact nomatch hd
      · rw [List.mem_singleton.mp he]
        exact .inr ⟨rfl, le_rfl⟩
    | some b =>
      obtain ⟨hb, hmem, hbest⟩ := h
      dsimp only
      split
      · next hlt =>
        refine ⟨hdue, by simp, fun e he hd => ?_⟩
        rcases List.mem_append.mp he with he | he
        · left
          rcases hbest e he hd with hl | ⟨hl, -⟩ <;> omega
        · rw [List.mem_singleton.mp he]
          exact .inr ⟨rfl, le_rfl⟩
      · next hge =>
        refine ⟨hb, List.mem_append_left _ hmem, fun e he hd => ?_⟩
        rcases List.mem_append.mp he with he | he
        · exact hbest e he hd
        · rw [List.mem_singleton.mp he]
          rcases Nat.lt_or_eq_of_le (Nat.le_of_not_lt hge) with hl | hl
          · exact .inl hl
          · exact .inr ⟨hl, hc b hmem⟩

theorem isChosen_foldl {seen : List (Fin 16)} {best : Option (Fin 16)} (h : isChosen s seen best) {l : List (Fin 16)}
    (hl : (seen ++ l).Pairwise (· < ·)) : isChosen s (seen ++ l) (l.foldl (chooseStep s) best) := by
  induction l generalizing seen best with
  | nil => simpa using h
  | cons c l ih =>
    have hstep := isChosen_chooseStep h (c := c) fun e he =>
      ((List.pairwise_append.mp hl).2.2 e he c List.mem_cons_self).le
    have hrest := ih hstep (by simpa using hl)
    simpa using hrest

/-- R192: what an offer chooses. -/
theorem isChosen_chosenCause (s : State) : isChosen s allSlots (chosenCause s) :=
  isChosen_foldl (seen := []) (best := none) (fun _ h => nomatch h) (by decide)

theorem chosenCause_eq_none (h : ∀ c, causeDue s c = false) : chosenCause s = none := by
  have hchosen := isChosen_chosenCause s
  cases hc : chosenCause s with
  | none => rfl
  | some b =>
    rw [hc] at hchosen
    exact nomatch (h b).symm.trans hchosen.1

theorem exists_chosenCause {e : Fin 16} (he : causeDue s e = true) : ∃ c, chosenCause s = some c ∧ causeDue s c = true ∧
    ∀ e, causeDue s e = true → (s.causes.get e).level < (s.causes.get c).level ∨
      (s.causes.get e).level = (s.causes.get c).level ∧ c ≤ e := by
  have hchosen := isChosen_chosenCause s
  cases hc : chosenCause s with
  | none =>
    rw [hc] at hchosen
    rw [hchosen e (mem_allSlots e)] at he
    exact nomatch he
  | some b =>
    rw [hc] at hchosen
    obtain ⟨hb, -, hbest⟩ := hchosen
    exact ⟨b, rfl, hb, fun e => hbest e (mem_allSlots e)⟩

theorem causeDue_iff (s : State) (c : Fin 16) : causeDue s c = true ↔ (s.causes.get c).pending = true ∧
    (s.causes.get c).enable = true ∧ (s.causes.get c).announced = false ∧ s.setting 16 < (s.causes.get c).level := by
  simp [causeDue, and_assoc]

theorem noticeTaken_iff (s : State) (p : Up) : noticeTaken s p = true ↔ (s.up p).state ≠ .down ∧ (s.up p).queue.length < 32 := by
  rw [noticeTaken, Bool.and_eq_true, State.takesCells_iff, State.hasRoom_iff]

/-- What an offer leaves of a port. -/
def noticed (s : State) (c : Fin 16) (p : Up) : Upstream :=
  if noticeTaken s p then { s.up p with queue := (s.up p).queue ++ [noticeCell s c] } else s.up p

theorem announced_placed (s : State) (c : Fin 16) :
    announce c (placeNotice (noticeCell s c) .ub (placeNotice (noticeCell s c) .ua s)) =
      (((s.withUa (noticed s c .ua)).withUb (noticed s c .ub)).withCauses (s.causes.set c
        { s.causes.get c with announced := true })).withNoticePlaced true := by
  have hua : placeNotice (noticeCell s c) .ua s = s.withUa (noticed s c .ua) := by
    unfold placeNotice noticed
    split <;> rfl
  have hub : ∀ x, placeNotice (noticeCell s c) .ub (s.withUa x) = (s.withUa x).withUb (noticed s c .ub) := fun x => by
    unfold placeNotice noticed
    rw [show noticeTaken (s.withUa x) .ub = noticeTaken s .ub from rfl]
    split <;> rfl
  rw [hua, hub]
  rfl

/-- R21: two bytes spell a number modulo 65,536. -/
theorem beBytes_two_partTime (s : State) : beBytes 2 s.partTime.toNat = beBytes 2 (s.clock % 65536) := by
  have hclock : s.partTime.toNat = s.clock % 4294967296 := BitVec.toNat_ofNat _ _
  simp only [beBytes, hclock, Nat.shiftRight_eq_div_pow, List.cons.injEq, and_true]
  exact ⟨BitVec.eq_of_toNat_eq (by simp only [BitVec.toNat_ofNat]; omega),
    BitVec.eq_of_toNat_eq (by simp only [BitVec.toNat_ofNat]; omega)⟩

theorem noticeCell_eq (s : State) (c : Fin 16) : noticeCell s c = ⟨0x31, 0,
    [BitVec.ofNat 8 c.val, BitVec.ofNat 8 (s.causes.get c).level,
      match (s.causes.get c).firstSlot with
        | some k => BitVec.ofNat 8 k.val
        | none => 0xFF,
      BitVec.ofNat 8 (s.causes.get c).count] ++ beBytes 2 (s.clock % 65536)⟩ := by
  rw [noticeCell, beBytes_two_partTime]
  rfl

/-- Settles O46. -/
theorem offerPlacesOneNotice : Obligations.OfferPlacesOneNotice := by
  unfold Obligations.OfferPlacesOneNotice
  intro s
  have hexec : exec .noticeOffer s = .next (noticeOffer s) := rfl
  refine ⟨fun hr => by rw [hexec, noticeOffer, hr, Bool.or_true]; rfl, fun hr => ?_⟩
  dsimp only
  simp only [← causeDue_iff, ← noticeTaken_iff, hexec]
  have hoffer : s.noticePlaced = false → ∀ c, chosenCause s = some c → noticeOffer s =
      if noticeTaken s .ua || noticeTaken s .ub then announce c (placeNotice (noticeCell s c) .ub (placeNotice (noticeCell s c) .ua s))
      else s := fun hp c hc => by
    rw [noticeOffer, hp, hr, hc]
    rfl
  refine ⟨fun h => congrArg _ ?_, fun hplaced htakes ⟨e, he⟩ => ?_⟩
  · rcases h with hp | hnone | ⟨ha, hb⟩
    · rw [noticeOffer, hp]
      rfl
    · rw [noticeOffer, chosenCause_eq_none fun c => Bool.eq_false_iff.mpr (hnone c)]
      exact ite_self s
    · rw [noticeOffer, Bool.eq_false_iff.mpr ha, Bool.eq_false_iff.mpr hb]
      split
      · rfl
      · split <;> rfl
  · obtain ⟨c, hchosen, hdue, hbest⟩ := exists_chosenCause he
    refine ⟨c, _, hdue, hbest, rfl, ?_⟩
    rw [hoffer hplaced c hchosen, if_pos (by simpa using htakes), announced_placed]
    have hup : ∀ p, ((((s.withUa (noticed s c .ua)).withUb (noticed s c .ub)).withCauses (s.causes.set c
        { s.causes.get c with announced := true })).withNoticePlaced true).up p = noticed s c p := fun p => by
      cases p <;> rfl
    refine ⟨fun p hp => ?_, fun p hp => ?_, rfl⟩
    · rw [hup, noticed, if_pos hp]
      exact congrArg (fun x => { s.up p with queue := (s.up p).queue ++ [x] }) (noticeCell_eq s c)
    · rw [hup, noticed, if_neg hp]

end Sys2Proof.Machine
end

section
/-! PROOFS. Band factors, drift targets and plan entries (R22, R129 to R132, R138 to R140): O49, O51, O53. -/

namespace Sys2Proof.Machine

variable {s t u : State}

/-! ## Band factors -/

/-- The start column of an entry on line `y`, unclipped. -/
def Band.startColumn (b : Band) (y : Nat) : Int := (b.startEdge.toInt + ((y : Int) - b.y0.toNat) * b.startSlope.toInt) / 65536

/-- The end column of an entry on line `y`, unclipped. -/
def Band.endColumn (b : Band) (y : Nat) : Int := (b.endEdge.toInt + ((y : Int) - b.y0.toNat) * b.endSlope.toInt) / 65536

/-- R129, R130: the entry covers column `x` of line `y` in a width of `w`. -/
def Band.covers (w x y : Nat) (b : Band) : Bool := b.enabled && decide (b.y0.toNat ≤ y ∧ y ≤ b.y1.toNat ∧
  max (b.startColumn y) 0 ≤ (x : Int) ∧ (x : Int) < min (b.endColumn y) w)

/-- R131: its ramp factor there. -/
def Band.rampAt (x y : Nat) (b : Band) : Nat := (b.startGain.toNat + Int.tdiv (((b.endGain.toNat : Int) - b.startGain.toNat) *
  (x - b.startColumn y)) (b.endColumn y - b.startColumn y)).toNat

theorem combineFactor_eq (running ramp : Nat) : combineFactor running ramp = max 2048 (min 6144 ((running * ramp + 2048) / 4096)) := by
  rw [combineFactor, roundHalfUp_two_mul (running * ramp) 2048]
  rfl

theorem foldl_bandStep_some (lines : List BandLine) (w x r : Nat) : lines.foldl (bandStep w x) (some r) =
    some (((lines.filter (·.covers w x)).map (·.ramp x)).foldl combineFactor r) := by
  induction lines generalizing r with
  | nil => rfl
  | cons l lines ih =>
    rw [List.foldl_cons, bandStep, List.filter_cons]
    split
    · exact ih _
    · exact ih _

/-- R132: the factor formed from the ramp factors of the covering entries, in their order. -/
def combinedFactor : List Nat → Nat
  | [] => 4096
  | first :: others => others.foldl combineFactor first

theorem combinedFactor_eq (ramps : List Nat) : combinedFactor ramps = match ramps with
    | [] => 4096
    | first :: others => others.foldl (fun running k => max 2048 (min 6144 ((running * k + 2048) / 4096))) first := by
  have hcombine : combineFactor = fun running k => max 2048 (min 6144 ((running * k + 2048) / 4096)) :=
    funext fun r => funext fun k => combineFactor_eq r k
  cases ramps with
  | nil => rfl
  | cons first others => exact congrArg (fun f => others.foldl f first) hcombine

theorem bandFactor_eq (lines : List BandLine) (w x : Nat) :
    bandFactor lines w x = combinedFactor ((lines.filter (·.covers w x)).map (·.ramp x)) := by
  unfold bandFactor
  induction lines with
  | nil => rfl
  | cons l lines ih =>
    rw [List.foldl_cons, bandStep, List.filter_cons]
    split
    · rw [foldl_bandStep_some]
      rfl
    · exact ih

/-- The columns and gains of an entry on line `y`. -/
def Band.line (b : Band) (y : Nat) : BandLine := ⟨b.startColumn y, b.endColumn y, b.startGain.toNat, b.endGain.toNat⟩

theorem onLine_eq (b : Band) (y : Nat) : b.onLine y =
    if b.enabled && decide (b.y0.toNat ≤ y) && decide (y ≤ b.y1.toNat) then some (b.line y) else none := rfl

/-- Of an entry that covers the pixel, `onLine` gives its ramp factor; of another, nothing. -/
theorem filter_onLine (b : Band) (w x y : Nat) : ((b.onLine y).toList.filter (·.covers w x)).map (·.ramp x) =
    if b.covers w x y then [b.rampAt x y] else [] := by
  rw [onLine_eq]
  split
  · next h =>
    simp only [Bool.and_eq_true, decide_eq_true_eq] at h
    obtain ⟨⟨he, hlow⟩, hhigh⟩ := h
    have hcovers : b.covers w x y = (b.line y).covers w x := by
      simp only [Band.covers, he, hlow, hhigh, true_and, Bool.true_and, BandLine.covers, Bool.decide_and, Band.line]
      rfl
    rw [hcovers, Option.toList_some, List.filter_singleton]
    cases (b.line y).covers w x <;> rfl
  · next h =>
    rw [if_neg]
    · rfl
    · intro hc
      simp only [Band.covers, Bool.and_eq_true, decide_eq_true_eq] at hc h
      exact h ⟨⟨hc.1, hc.2.1⟩, hc.2.2.1⟩

theorem filter_bandLines (bands : List Band) (w x y : Nat) :
    ((bands.filterMap (·.onLine y)).filter (·.covers w x)).map (·.ramp x) =
      (bands.filter (·.covers w x y)).map (·.rampAt x y) := by
  induction bands with
  | nil => rfl
  | cons b bands ih =>
    have hsplit : (b :: bands).filterMap (·.onLine y) = (b.onLine y).toList ++ bands.filterMap (·.onLine y) := by
      rw [List.filterMap_cons]
      cases b.onLine y <;> rfl
    rw [hsplit, List.filter_append, List.map_append, ih, filter_onLine, List.filter_cons]
    split <;> rfl

theorem entries_four (bands : Table Band 4) : bands.entries = [0, 1, 2, 3].map bands.get := by
  obtain ⟨l, hl⟩ := bands
  match l, hl with
  | [_, _, _, _], _ => rfl

theorem bandFactor_bandLines (bands : Table Band 4) (w x y : Nat) : bandFactor (bandLines bands y) w x =
    combinedFactor ((([0, 1, 2, 3].map bands.get).filter (·.covers w x y)).map (·.rampAt x y)) := by
  rw [bandFactor_eq, bandLines, filter_bandLines, entries_four]

/-- R131: a ramp lies between its two gains. -/
theorem rampAt_inRange {b : Band} {w x y : Nat} (hc : b.covers w x y = true)
    (hs : 2048 ≤ b.startGain.toNat ∧ b.startGain.toNat ≤ 6144) (he : 2048 ≤ b.endGain.toNat ∧ b.endGain.toNat ≤ 6144) :
    2048 ≤ b.rampAt x y ∧ b.rampAt x y ≤ 6144 := by
  simp only [Band.covers, Bool.and_eq_true, decide_eq_true_eq] at hc
  obtain ⟨-, -, -, hfirst, hlast⟩ := hc
  unfold Band.rampAt
  generalize b.startColumn y = first at *
  generalize b.endColumn y = last at *
  generalize b.startGain.toNat = g at *
  generalize b.endGain.toNat = h at *
  have hpos : 0 < last - first := by omega
  have hstep : 0 ≤ (x : Int) - first := by omega
  have hle : (x : Int) - first ≤ last - first := by omega
  rcases le_total g h with hgh | hgh
  · have hnonneg : 0 ≤ ((h : Int) - g) * (x - first) := mul_nonneg (by omega) hstep
    have hmul : ((h : Int) - g) * (x - first) ≤ (h - g) * (last - first) := mul_le_mul_of_nonneg_left hle (by omega)
    rw [Int.tdiv_eq_ediv_of_nonneg hnonneg]
    have hlow := Int.ediv_nonneg hnonneg hpos.le
    have hhigh := Int.ediv_le_of_le_mul hpos hmul
    omega
  · have hnonneg : 0 ≤ ((g : Int) - h) * (x - first) := mul_nonneg (by omega) hstep
    have hmul : ((g : Int) - h) * (x - first) ≤ (g - h) * (last - first) := mul_le_mul_of_nonneg_left hle (by omega)
    have hneg : ((h : Int) - g) * (x - first) = -(((g : Int) - h) * (x - first)) := by ring
    rw [hneg, Int.neg_tdiv, Int.tdiv_eq_ediv_of_nonneg hnonneg]
    have hlow := Int.ediv_nonneg hnonneg hpos.le
    have hhigh := Int.ediv_le_of_le_mul hpos hmul
    omega

theorem combinedFactor_inRange {ramps : List Nat} (h : ∀ r ∈ ramps, 2048 ≤ r ∧ r ≤ 6144) :
    2048 ≤ combinedFactor ramps ∧ combinedFactor ramps ≤ 6144 := by
  cases ramps with
  | nil => exact ⟨by decide, by decide⟩
  | cons first others =>
    have hfold : ∀ (l : List Nat) (r : Nat), 2048 ≤ r ∧ r ≤ 6144 → 2048 ≤ l.foldl combineFactor r ∧ l.foldl combineFactor r ≤ 6144 :=
      fun l => by
        induction l with
        | nil => exact fun r hr => hr
        | cons a l ih => exact fun r _ => ih _ (by rw [combineFactor_eq]; omega)
    exact hfold others first (h first List.mem_cons_self)

/-- Settles O49. -/
theorem bandFactorStaysInRange : Obligations.BandFactorStaysInRange := by
  unfold Obligations.BandFactorStaysInRange
  intro bands w x y hgains
  refine ⟨?_, fun hnone => ?_, ?_⟩
  · rw [bandFactor_bandLines]
    refine combinedFactor_inRange fun r hr => ?_
    obtain ⟨b, hb, rfl⟩ := List.mem_map.mp hr
    obtain ⟨hmem, hc⟩ := List.mem_filter.mp hb
    obtain ⟨i, -, rfl⟩ := List.mem_map.mp hmem
    have henabled : (bands.get i).enabled = true := by
      rw [Band.covers, Bool.and_eq_true] at hc
      exact hc.1
    obtain ⟨h1, h2, h3, h4⟩ := hgains i henabled
    exact rampAt_inRange hc ⟨h1, h2⟩ ⟨h3, h4⟩
  · rw [bandFactor_eq, List.filter_eq_nil_iff.mpr fun l hl => by simp [hnone l hl]]
    rfl
  · exact (bandFactor_bandLines bands w x y).trans (combinedFactor_eq _)

/-! ## Drift targets -/

theorem roundHalfAway_eq (x : Int) : roundHalfAway (65536 * x) 100000000 =
    if 0 ≤ x then (65536 * x + 50000000) / 100000000 else -((-65536 * x + 50000000) / 100000000) := by
  rw [roundHalfAway, roundHalfUp_two_mul _ 50000000]
  (repeat' split) <;> omega

/-- R139, R140: the target of one channel. -/
theorem clampTarget_rawTarget (x : Int) : clampTarget (rawTarget x) = (max 49152 (min 98304 (65536 +
    if 0 ≤ x then (65536 * x + 50000000) / 100000000 else -((-65536 * x + 50000000) / 100000000)))).toNat := by
  rw [rawTarget, roundHalfAway_eq]
  rfl

theorem driftX_eq (kT dT : Int) (kA hours base : Nat) : driftX kT dT kA (hours - base) =
    25 * kT * dT + kA * (if base ≤ hours then (hours : Int) - base else 0) := by
  rw [driftX]
  split
  · next h => rw [Nat.cast_mul, Nat.cast_sub h]
  · next h => rw [Nat.sub_eq_zero_of_le (by omega), Nat.mul_zero, Nat.cast_zero, mul_zero]

theorem slotCoefficients_of_matched {k : SlotId} {f : TileFacts} {r : Record} (hp : (s.tile k).presence = .matched)
    (hf : (s.tile k).facts = some f) (hr : findRecord s.records f.serial = some r) :
    slotCoefficients s k = recCoefficients r := by
  rw [slotCoefficients, boundRecord, hp, hf]
  dsimp only
  rw [hr]

theorem slotCoefficients_of_unknown {k : SlotId} (hp : (s.tile k).presence = .unknown) :
    slotCoefficients s k = fallbackCoefficients s := by
  rw [slotCoefficients, boundRecord, hp]

/-- Settles O51. -/
theorem targetFactorFormula : Obligations.TargetFactorFormula := by
  unfold Obligations.TargetFactorFormula
  refine ⟨fun c reading hours => ?_, fun s k => ⟨?_, fun f r hp hf hr => slotCoefficients_of_matched hp hf hr,
    slotCoefficients_of_unknown⟩⟩
  · cases reading with
    | none => simp only [rawTargets, Rgb.map, Rgb.zip, clampTarget_rawTarget, driftX_eq]
    | some r => simp only [rawTargets, Rgb.map, Rgb.zip, clampTarget_rawTarget, driftX_eq]
  · unfold slotRawTargets currentHours
    cases (s.drift.get k).reading <;> cases (s.tile k).facts <;> rfl

/-! ## Plan entries -/

theorem flagOf_flagByte (b : Bool) : flagOf (flagByte b) = some b := by cases b <;> rfl

theorem orientationOf_code (o : Orientation) : orientationOf o.code = some o := by cases o <;> rfl

theorem toNat_ofNat_of_lt {n w : Nat} (h : n < 2 ^ w) : (BitVec.ofNat w n).toNat = n := by
  rw [BitVec.toNat_ofNat, Nat.mod_eq_of_lt h]

theorem slotOf_byte1 (k : SlotId) : slotOf (byte1 k.val) = some k := by
  have hk : (byte1 k.val).toNat = k.val := toNat_ofNat_of_lt (by omega)
  unfold slotOf
  simp only [hk, k.isLt, dite_true]

theorem colourOf_colourWords {c : Rgb Nat} (h : c.r ≤ 4095 ∧ c.g ≤ 4095 ∧ c.b ≤ 4095) : colourOf (colourWords c) = some c := by
  obtain ⟨hr, hg, hb⟩ := h
  have hword : ∀ n : Nat, n ≤ 4095 → (BitVec.ofNat 16 n).toNat = n := fun n hn => toNat_ofNat_of_lt (by omega)
  simp only [colourOf, colourWords, Rgb.map, hword _ hr, hword _ hg, hword _ hb, hr, hg, hb, decide_true, Bool.and_self, if_true]

/-- R20: a field of two bytes read back. -/
theorem beNat_be16 (w : W16) : beNat (be16 w) = w.toNat := by
  have hw := w.isLt
  simp only [be16, beBytes, beNat, List.foldl_cons, List.foldl_nil, BitVec.toNat_ofNat, Nat.shiftRight_eq_div_pow]
  omega

theorem ofNat_beNat_be16 (w : W16) : BitVec.ofNat 16 (beNat (be16 w)) = w := by
  rw [beNat_be16, BitVec.ofNat_toNat, BitVec.setWidth_eq]

/-- Table 1-5: the bytes of an entry read back as it. -/
theorem planAt_bytes (e : RawPlan) : planAt (RawPlan.bytes e) 0 = e := by
  have hword : ∀ w : W16, BitVec.ofNat 16 (beNat (be16 w)) = w := ofNat_beNat_be16
  obtain ⟨kind, dark, line, column, width, height, orientation, mirror, target, pitch, r, g, b⟩ := e
  simp only [planAt, RawPlan.mk.injEq, Rgb.mk.injEq]
  exact ⟨rfl, rfl, hword line, hword column, hword width, hword height, rfl, rfl, rfl, rfl, hword r, hword g, hword b⟩

/-- Settles O53. -/
theorem storedPlanReadsBackAsItself : Obligations.StoredPlanReadsBackAsItself := by
  unfold Obligations.StoredPlanReadsBackAsItself
  refine fun p hp => ⟨?_, planAt_bytes p.raw, rfl⟩
  have hword : ∀ n : Nat, n ≤ 4095 → (BitVec.ofNat 16 n).toNat = n := fun n hn => toNat_ofNat_of_lt (by omega)
  cases p with
  | none => rfl
  | canvas c =>
    obtain ⟨hl, hc, hw, hw', hw8, hh, hh', hh8⟩ := hp
    simp [decodePlan, Plan.raw, flagOf_flagByte, orientationOf_code, hword _ hl, hword _ hc, hword c.width (by omega),
      hword c.height (by omega), sizeOk, hl, hc, hw, hw', hw8, hh, hh', hh8]
  | mirror dark target => simp [decodePlan, Plan.raw, flagOf_flagByte, slotOf_byte1]
  | flat dark colour => simp [decodePlan, Plan.raw, flagOf_flagByte, colourOf_colourWords hp]
  | grid dark colour pitch =>
    obtain ⟨hr, hg, hb, hlow, hhigh⟩ := hp
    have hpitch : (byte1 pitch).toNat = pitch := toNat_ofNat_of_lt (by omega)
    simp [decodePlan, Plan.raw, flagOf_flagByte, colourOf_colourWords ⟨hr, hg, hb⟩, hpitch, hlow, hhigh]

end Sys2Proof.Machine
end

section
/-! PROOFS. A sent cell as a receiver takes it (R1, R2, R20): O52. -/

namespace Sys2Proof.Machine

theorem length_be16 (w : W16) : (be16 w).length = 2 := rfl

/-- R20: a two-byte field that ends a sequence of bytes. -/
theorem field_append_be16 (bs : List Byte) (w : W16) : field (bs ++ be16 w) bs.length 2 = w.toNat := by
  have hbytes : (List.range 2).map (fun i => (bs ++ be16 w).getD (bs.length + i) 0) = be16 w := by
    show [(bs ++ be16 w).getD (bs.length + 0) 0, (bs ++ be16 w).getD (bs.length + 1) 0] = be16 w
    rw [List.getD_append_right _ _ _ _ (by omega), List.getD_append_right _ _ _ _ (by omega), Nat.add_sub_cancel_left,
      Nat.add_sub_cancel_left]
    rfl
  rw [field, hbytes, beNat_be16]

theorem beNat_beBytes_two {n : Nat} (h : n < 65536) : beNat (beBytes 2 n) = n := by
  have hn : (BitVec.ofNat 16 n).toNat = n := toNat_ofNat_of_lt h
  have hfield := beNat_be16 (BitVec.ofNat 16 n)
  rwa [be16, hn] at hfield

theorem length_wire (c : Cell) : (Cell.wire c).length = 5 + c.payload.length + 2 := by
  simp [Cell.wire, Cell.header, be16, beBytes]
  omega

/-- Table 1-1: once its header is in, a partial cell's length is known. -/
theorem cellLength_of_prefix {c : Cell} {bs : List Byte} (hc : c.payload.length ≤ 4095) (hpre : bs <+: Cell.wire c)
    (hlen : 5 ≤ bs.length) : cellLength bs = (Cell.wire c).length := by
  rw [length_wire]
  match bs, hlen with
  | b0 :: b1 :: b2 :: b3 :: b4 :: rest, _ =>
    have hwire : Cell.wire c = c.kind :: (beBytes 2 (c.payload.length % 4096) ++ be16 c.tag ++ c.payload ++
      be16 (crc16 (Cell.header c ++ c.payload))) := rfl
    rw [hwire] at hpre
    obtain ⟨-, hpre⟩ := List.cons_prefix_cons.mp hpre
    obtain ⟨h1, hpre⟩ := List.cons_prefix_cons.mp hpre
    obtain ⟨h2, -⟩ := List.cons_prefix_cons.mp hpre
    have hfield : field (b0 :: b1 :: b2 :: b3 :: b4 :: rest) 1 2 = beNat (beBytes 2 (c.payload.length % 4096)) := by
      show beNat [b1, b2] = _
      rw [h1, h2]
      rfl
    rw [cellLength, hfield, beNat_beBytes_two (by omega)]
    omega

/-- R2: the complete cell passes its CRC and is the cell sent. -/
theorem judgeCell_wire (c : Cell) : judgeCell (Cell.wire c) = .good c := by
  have hwire : Cell.wire c = (Cell.header c ++ c.payload) ++ be16 (crc16 (Cell.header c ++ c.payload)) := rfl
  have hlen : (Cell.wire c).length - 2 = (Cell.header c ++ c.payload).length := by
    rw [hwire, List.length_append, length_be16, Nat.add_sub_cancel]
  have hbody : (Cell.wire c).take (Cell.header c ++ c.payload).length = Cell.header c ++ c.payload := List.take_left' rfl
  have htag : field (Cell.wire c) 3 2 = c.tag.toNat := beNat_be16 c.tag
  rw [judgeCell, hlen, hbody, htag]
  rw [hwire, field_append_be16]
  simp only [BitVec.ofNat_toNat, BitVec.setWidth_eq, if_true]
  rfl

/-- R1: the rest of a cell's bytes, taken with its first bytes already in. -/
theorem delineateAll_of_partial {c : Cell} (hc : c.payload.length ≤ 4095) {bs rest : List Byte} (hrest : rest ≠ [])
    (hwire : bs ++ rest = Cell.wire c) : delineateAll (some bs) (rest.map LineSymbol.data) = (none, [.good c]) := by
  induction rest generalizing bs with
  | nil => exact absurd rfl hrest
  | cons b rest ih =>
    have hnow : (bs ++ [b]) ++ rest = Cell.wire c := by rw [← hwire, List.append_assoc]; rfl
    have hpre : bs ++ [b] <+: Cell.wire c := ⟨rest, hnow⟩
    cases rest with
    | nil =>
      have hwhole : bs ++ [b] = Cell.wire c := by simpa using hnow
      have hlen : 5 ≤ (Cell.wire c).length ∧ (Cell.wire c).length = cellLength (Cell.wire c) := by
        have h5 : 5 ≤ (Cell.wire c).length := by rw [length_wire]; omega
        exact ⟨h5, (cellLength_of_prefix hc List.prefix_rfl h5).symm⟩
      have hlast : delineate (some bs) (.data b) = (none, .good c) := by
        rw [delineate, hwhole, if_pos hlen, judgeCell_wire]
      simp [delineateAll, hlast]
    | cons b' rest =>
      have hshort : ¬ (5 ≤ (bs ++ [b]).length ∧ (bs ++ [b]).length = cellLength (bs ++ [b])) := by
        rintro ⟨h5, heq⟩
        rw [cellLength_of_prefix hc hpre h5, ← hnow] at heq
        simp at heq
      have hnext : delineate (some bs) (.data b) = (some (bs ++ [b]), .nothing) := by
        rw [delineate]
        exact if_neg hshort
      rw [List.map_cons, delineateAll, hnext, ih (List.cons_ne_nil _ _) hnow]
      rfl

/-- Settles O52. -/
theorem sentCellIsReceivedWhole : Obligations.SentCellIsReceivedWhole := by
  unfold Obligations.SentCellIsReceivedWhole
  intro c hc
  have hrest : Cell.wire c ≠ [] := List.cons_ne_nil _ _
  have hcell := delineateAll_of_partial hc (bs := []) hrest rfl
  have hstart : delineateAll none (.start :: (Cell.wire c).map LineSymbol.data) =
      delineateAll (some []) ((Cell.wire c).map LineSymbol.data) := rfl
  rw [hstart, hcell]

end Sys2Proof.Machine
end

section
/-! PROOFS. Requests that are not executed, PROBE-SLOTS and SENSE-SLOT (R15, R75, R147, R171 to R174, R186): O41, O42. -/

namespace Sys2Proof.Machine

variable {s t u : State}

/-! ## Requests that are not executed -/

/-- R174: what every edit is: it asks first whether the other port holds the edit flag. -/
theorem requestOf_edit {i : Instr} {p : Up} {tag : W16} {code : Byte} (h : editHead i = some (p, tag, code)) :
    ∃ r, requestOf i = some r ∧ r.port = p ∧ r.tag = tag ∧ r.code = code ∧
      ∀ u, editRefused u p = true → r.body u = (u, some (.refuse .notOwner)) := by
  cases i
  case libPut p' tag' pointer words =>
    rw [editHead] at h
    split at h
    · next hw =>
      obtain ⟨rfl, rfl, rfl⟩ := Prod.mk.injEq .. ▸ (Option.some.inj h)
      refine ⟨_, congrArg some (if_neg (by omega)), rfl, rfl, rfl, fun u hu => if_pos hu⟩
    · exact nomatch h
  all_goals
    simp only [editHead, reduceCtorEq, Option.some.injEq, Prod.mk.injEq] at h
  all_goals
    obtain ⟨rfl, rfl, rfl⟩ := h
    exact ⟨_, rfl, rfl, rfl, rfl, fun u hu => if_pos hu⟩

theorem editRefused_iff {p : Up} : editRefused s p = true ↔ s.flags.get 0 = true ∧ s.holder ≠ some p := by
  simp [editRefused]

/-- Every REQUEST cell on a port that takes cells is counted there and then taken. -/
theorem exec_takeRequest {i : Instr} {p : Up} (hp : Instr.requestPort i = some p) (h : s.listens p) :
    ∃ r, r.port = p ∧ exec i s = .next (takeRequest i r (s.heard p)) := by
  cases hr : requestOf i with
  | some r =>
    obtain rfl : r.port = p := Option.some.inj ((requestOf_port hr).symm.trans hp)
    exact ⟨r, rfl, by rw [exec_request hr, arriveRequest, upCell_listens _ h]⟩
  | none => cases i <;> simp only [requestOf, reduceCtorEq] at hr <;> simp only [Instr.requestPort, reduceCtorEq] at hp

/-- Settles O42. -/
theorem requestsNotExecuted : Obligations.RequestsNotExecuted := by
  unfold Obligations.RequestsNotExecuted
  refine ⟨fun i p tag code s hi hs hf hh => ?_, fun p tag code operands s hs => ?_, fun p tag pointer words s hs hw => ?_,
    fun i p s hp hl => ?_⟩
  · obtain ⟨r, hr, rfl, rfl, rfl, hbody⟩ := requestOf_edit hi
    exact exec_served hr rfl hs (hbody _ (editRefused_iff.mpr ⟨by simpa using hf, by simpa using hh⟩))
  · exact exec_read (answer := fun _ => .refuse .badRequest) rfl hs rfl
  · have hreq : requestOf (.libPut p tag pointer words) = some (readRequest p tag 0x09 fun _ => .refuse .badRequest) :=
      congrArg some (if_pos hw)
    exact exec_read hreq hs rfl
  · obtain ⟨r, rfl, hexec⟩ := exec_takeRequest hp hl
    have hunanswered : countUnanswered r.port (s.heard r.port) = (s.heard r.port).withUp r.port
        { (s.heard r.port).up r.port with unanswered := tallied (s.up r.port).unanswered } := by
      simp [countUnanswered, tallyUp, tallied, Config.tallyMax]
    have hwaiting : waitingAt (s.heard r.port) r.port =
        (s.waiting.filter fun j => decide (Instr.requestPort j = some r.port)).length := by
      simp [waitingAt]
    rw [hexec, takeRequest]
    simp only [State.heard_fields, ← hunanswered, ← hwaiting]
    refine ⟨fun hr hq => ?_, fun hr hlt => ?_, fun hr hge => ?_⟩
    · have hroom : (s.heard r.port).hasRoom r.port = false := by
        rw [← Bool.not_eq_true, State.hasRoom_iff]
        simpa using hq
      simp [hr, hroom]
    · rw [if_pos hr, holdRequest, Config.maxWaiting, if_pos hlt]
      simp
    · rw [if_pos hr, holdRequest, Config.maxWaiting, if_neg (not_lt.mpr hge)]

/-! ## PROBE-SLOTS -/

theorem chooseQuery_senseList (senses : Bool) (s : State) : (chooseQuery senses s).query.senseList ⊆ s.query.senseList := by
  unfold chooseQuery chooseSense
  (repeat' split) <;> simp_all [handOver]

theorem chooseAndBegin_senseList (s : State) : (chooseAndBegin s).query.senseList ⊆ s.query.senseList := by
  have hbegun : (chooseAndBegin s).query.senseList = (chooseQuery s.engine.scan.isNone s).query.senseList := by
    rw [chooseAndBegin, beginNext_query]
    unfold QueryUnit.begun
    (repeat' split) <;> rfl
  rw [hbegun]
  exact chooseQuery_senseList _ s

theorem probeOutstanding_iff {k : SlotId} : probeOutstanding s k = true ↔
    ∃ q, s.query.outstanding = some q ∧ q.kind = .probe ∧ q.slot = k := by
  unfold probeOutstanding
  cases s.query.outstanding <;> simp

/-- R75: what PROBE-SLOTS makes of a slot. -/
def probedTile (s : State) (k : SlotId) : Tile :=
  match (s.tile k).presence with
  | .empty => s.tile k
  | .absent => if probeOutstanding s k then s.tile k else { s.tile k with due := some (.instant s.clock) }
  | _ => ⟨.absent, none, some (.instant s.clock)⟩

theorem probedTile_congr (htiles : t.tiles = s.tiles) (hclock : t.clock = s.clock) (hquery : t.query = s.query) (k : SlotId) :
    probedTile t k = probedTile s k := by
  unfold probedTile probeOutstanding State.tile
  rw [htiles, hclock, hquery]

theorem probedTile_of_identified {k : SlotId} (h : (s.tile k).presence.identified = true) :
    probedTile s k = ⟨.absent, none, some (.instant s.clock)⟩ := by
  unfold probedTile
  cases hp : (s.tile k).presence <;> simp [hp, Presence.identified] at h ⊢

theorem probeNamed_of_identified {k : SlotId} (h : (s.tile k).presence.identified = true) : probeNamed k s = loseIdentity k s := by
  unfold probeNamed
  cases hp : (s.tile k).presence <;> simp [hp, Presence.identified] at h ⊢

theorem loseIdentity_tile (j k : SlotId) (s : State) :
    (loseIdentity j s).tile k = if j = k then ⟨.absent, none, some (.instant s.clock)⟩ else s.tile k := by
  rw [State.tile, loseIdentity_tiles, Table.get_set]
  rfl

theorem probeNamed_tile (k : SlotId) (s : State) : (probeNamed k s).tile k = probedTile s k := by
  unfold probeNamed probedTile
  cases (s.tile k).presence
  case absent =>
    dsimp only
    split
    · rfl
    · rw [State.tile_withTile, if_pos rfl]
  case empty => rfl
  all_goals exact (loseIdentity_tile k k s).trans (if_pos rfl)

theorem probeNamed_tile_other {j k : SlotId} (h : j ≠ k) (s : State) : (probeNamed j s).tile k = s.tile k := by
  unfold probeNamed
  cases (s.tile j).presence
  case absent =>
    dsimp only
    split
    · rfl
    · rw [State.tile_withTile, if_neg h]
  case empty => rfl
  all_goals exact (loseIdentity_tile j k s).trans (if_neg h)

theorem probeNamed_query (k : SlotId) (s : State) : (∀ j, probeOutstanding (probeNamed k s) j = probeOutstanding s j) ∧
    (probeNamed k s).query.senseList ⊆ s.query.senseList := by
  have hlose : (∀ j, probeOutstanding (loseIdentity k s) j = probeOutstanding s j) ∧
      (loseIdentity k s).query.senseList ⊆ s.query.senseList := by
    refine ⟨fun j => ?_, by simp⟩
    rw [Bool.eq_iff_iff, probeOutstanding_iff, probeOutstanding_iff]
    simp only [loseIdentity_query, Option.filter_eq_some_iff, decide_eq_true_eq]
    exact ⟨fun ⟨q, ⟨hq, _⟩, hk, hj⟩ => ⟨q, hq, hk, hj⟩, fun ⟨q, hq, hk, hj⟩ => ⟨q, ⟨hq, fun hn => nomatch hk.symm.trans hn.1⟩, hk, hj⟩⟩
  unfold probeNamed
  split
  · exact ⟨fun _ => rfl, fun _ h => h⟩
  · split
    · exact ⟨fun _ => rfl, fun _ h => h⟩
    · exact ⟨fun _ => by simp [probeOutstanding, State.withTile], by simp [State.withTile]⟩
  all_goals exact hlose

/-- R75: the sweep of PROBE-SLOTS. -/
def probeSet (set : W16) (s : State) : State := forSlots (fun k acc => if inSet set k then probeNamed k acc else acc) s

theorem touches_probeSet (set : W16) (s : State) : Touches [.tiles, .query] s (probeSet set s) :=
  touches_forSlots (fun k u v h => by split <;> simp [h]) (.refl _ s)

theorem probeSet_slot (set : W16) (s : State) (k : SlotId) :
    (probeSet set s).tile k = (if inSet set k then probedTile s k else s.tile k) ∧
    (inSet set k = true → (s.tile k).presence.identified = true → k ∉ (probeSet set s).query.senseList) := by
  refine forSlots_each
    (Pre := fun k u => u.clock = s.clock ∧ u.tile k = s.tile k ∧ probeOutstanding u k = probeOutstanding s k)
    (Post := fun k u => u.tile k = (if inSet set k then probedTile s k else s.tile k) ∧
      (inSet set k = true → (s.tile k).presence.identified = true → k ∉ u.query.senseList)) ?_ ?_ ?_
    (fun k => ⟨rfl, rfl, rfl⟩) k
  · rintro k u ⟨hclock, htile, hout⟩
    split
    · next hin =>
      refine ⟨?_, fun _ hid => ?_⟩
      · rw [probeNamed_tile]
        simp only [probedTile, htile, hout, hclock]
      · rw [probeNamed_of_identified (by rw [htile]; exact hid)]
        simp
    · next hin => exact ⟨htile, fun h => absurd h hin⟩
  · rintro j k u hne ⟨hclock, htile, hout⟩
    split
    · exact ⟨(touches_probeNamed j (.refl [.tiles, .query] u) (by simp) .clock (by simp)).trans hclock,
        (probeNamed_tile_other hne u).trans htile, ((probeNamed_query j u).1 k).trans hout⟩
    · exact ⟨hclock, htile, hout⟩
  · rintro j k u hne ⟨htile, hlist⟩
    split
    · exact ⟨(probeNamed_tile_other hne u).trans htile, fun hin hid hm => hlist hin hid ((probeNamed_query j u).2 hm)⟩
    · exact ⟨htile, hlist⟩

/-! ## A reply -/

theorem touches_heard (s : State) (p : Up) : Touches [.up p] s (s.heard p) := touches_withUp p _ (.refl _ s) (by simp)

theorem touches_replied {ps : List Part} {p : Up} {tag : W16} {code : Byte} {o : ReqOutcome} {data : List Byte}
    (h : Touches ps s t) (sub : [Part.up p] ⊆ ps) : Touches ps s (t.replied p tag code o data) :=
  touches_enqueue p _ h sub

theorem touches_replied_self (p : Up) (tag : W16) (code : Byte) (o : ReqOutcome) (data : List Byte) (t : State) :
    Touches [.up p] t (t.replied p tag code o data) :=
  touches_replied (.refl _ t) (List.Subset.refl _)

/-- R15: the port of an executed request, its cell counted and its reply at the newest end of the queue. -/
theorem replied_up {ps : List Part} {p : Up} (h : Touches ps (s.heard p) t) (hp : Part.up p ∉ ps) (tag : W16) (code : Byte)
    (o : ReqOutcome) (data : List Byte) : (t.replied p tag code o data).up p =
      { (s.heard p).up p with queue := (s.up p).queue ++ [⟨0x30, tag, code :: o.code :: data⟩] } := by
  have hup : t.up p = (s.heard p).up p := h (.up p) hp
  simp [State.replied, State.enqueue, hup, kindReply]

theorem begins_replied {p : Up} {tag : W16} {code : Byte} {o : ReqOutcome} {data : List Byte} (h : begins s t) :
    begins s (t.replied p tag code o data) := by
  have hq := touches_replied_self p tag code o data t
  unfold begins
  rw [show State.d (t.replied p tag code o data) = t.d from hq .d (by simp),
    show State.engine (t.replied p tag code o data) = t.engine from hq .engine (by simp)]
  exact h

/-! ## PROBE-SLOTS and SENSE-SLOT -/

theorem exec_probeSlots {p : Up} (tag set : W16) (hs : s.serves p) (he : s.mayEdit p) : exec (.probeSlots p tag set) s =
    .next ((chooseAndBegin (probeSet set (s.heard p))).replied p tag 0x18 .ok (beBytes 2 set.toNat)) :=
  exec_edit (body := probeSlotsBody set) rfl hs he rfl

theorem exec_senseSlot_of_badIndex {p : Up} {slot : Byte} (tag : W16) (hs : s.serves p) (he : s.mayEdit p)
    (h : slotOf slot = none) : exec (.senseSlot p tag slot) s = .next ((s.heard p).replied p tag 0x19 .badIndex []) :=
  exec_edit (body := senseSlotBody slot) (a := .refuse .badIndex) rfl hs he (by rw [senseSlotBody, h])

/-- R147: the answer to SENSE-SLOT for a slot. -/
theorem senseSlotBody_of_slot {slot : Byte} {k : SlotId} (h : slotOf slot = some k) (s : State) : senseSlotBody slot s =
    if !(s.tile k).presence.identified then (s, .refuse .badValue)
    else if k ∈ s.query.senseList then (s, .ok [slot])
    else (chooseAndBegin (s.withQuery { s.query with senseList := s.query.senseList ++ [k] }), .ok [slot]) := by
  rw [senseSlotBody, h]

/-- R64: with no restart waiting a cell begins exactly when nothing is being sent. -/
theorem nextPhase_of_no_restart (h : s.restart = none) : nextPhase s = if s.d.tx = none then .sending else .waiting := by
  rw [nextPhase, h]
  cases s.d.tx <;> rfl

/-- Settles O41. -/
theorem probeSlotsAndSenseSlot : Obligations.ProbeSlotsAndSenseSlot := by
  unfold Obligations.ProbeSlotsAndSenseSlot
  intro p tag set slot s hs he
  have hheard := touches_heard s p
  refine ⟨?_, fun h => exec_senseSlot_of_badIndex tag hs he (slotOf_eq_none h), fun h => ?_⟩
  · refine ⟨_, exec_probeSlots tag set hs he, ?_⟩
    have hset := touches_probeSet set (s.heard p)
    have hslot := probeSet_slot set (s.heard p)
    generalize probeSet set (s.heard p) = v at *
    have hbegin := touches_chooseAndBegin (.refl [.d, .engine, .query] v) (by simp)
    have hlist := chooseAndBegin_senseList v
    have hbegins := begins_chooseAndBegin v
    generalize chooseAndBegin v = u at *
    have hsu : Touches [.d, .engine, .tiles, .query] (s.heard p) u := (hset.mono (by simp)).then hbegin (by simp)
    have hreply := touches_replied_self p tag 0x18 .ok (beBytes 2 set.toNat) u
    have hquery : State.query _ = u.query := hreply .query (by simp)
    have htile : ∀ k, (u.replied p tag 0x18 .ok (beBytes 2 set.toNat)).tile k =
        if inSet set k then probedTile s k else s.tile k := fun k => by
      rw [State.tile_of_tiles (hreply .tiles (by simp)), State.tile_of_tiles (hbegin .tiles (by simp)), (hslot k).1]
      rw [probedTile_congr (hheard .tiles (by simp)) (hheard .clock (by simp)) (hheard .query (by simp)), State.tile_of_tiles (hheard .tiles (by simp))]
    have hin : ∀ k, inSet set k = set.getLsbD k.val := fun _ => rfl
    simp only [← hin]
    refine ⟨fun k hk => (htile k).trans (if_neg (by rw [hk]; exact Bool.false_ne_true)), fun k hk hempty => ?_, fun k hk hid => ⟨?_, ?_⟩,
      fun k hk habsent => ?_, ?_, ?_, ?_⟩
    · rw [htile, if_pos hk, probedTile, hempty]
    · rw [htile, if_pos hk, probedTile_of_identified hid]
    · rw [hquery]
      exact fun hm => (hslot k).2 hk (by rw [State.tile_of_tiles (hheard .tiles (by simp))]; exact hid) (hlist hm)
    · rw [htile, if_pos hk, probedTile, habsent]
      exact if_congr probeOutstanding_iff rfl (by simp [habsent])
    · exact touches_replied ((hheard.mono (by simp)).then hsu (by simp)) (by simp)
    · refine begins_replied (begins_congr ?_ ?_ hbegins)
      · exact (hset .d (by simp)).trans (hheard .d (by simp))
      · exact (hset .engine (by simp)).trans (hheard .engine (by simp))
    · exact replied_up hsu (by simp) tag 0x18 .ok _
  · intro k
    have hbody := senseSlotBody_of_slot (slotOf_eq_some h) (s.heard p)
    simp only [State.tile, State.heard_fields] at hbody ⊢
    refine ⟨fun hid => ?_, fun hid hmem => ?_, fun hid hmem => ?_⟩
    · exact exec_edit (body := senseSlotBody slot) (a := .refuse .badValue) rfl hs he (hbody.trans (if_pos (by rw [hid]; rfl)))
    · refine exec_edit (body := senseSlotBody slot) (a := .ok [slot]) rfl hs he (hbody.trans ?_)
      rw [if_neg (by rw [hid]; exact Bool.false_ne_true), if_pos hmem]
    · have hexec : exec (.senseSlot p tag slot) s = .next ((chooseAndBegin ((s.heard p).withQuery
          { s.query with senseList := s.query.senseList ++ [k] })).replied p tag 0x19 .ok [slot]) := by
        refine exec_edit (body := senseSlotBody slot) (a := .ok [slot]) rfl hs he (hbody.trans ?_)
        rw [if_neg (by rw [hid]; exact Bool.false_ne_true), if_neg hmem]
      refine ⟨hexec, _, hexec, ?_⟩
      generalize hv : (s.heard p).withQuery { s.query with senseList := s.query.senseList ++ [k] } = v
      have hsv : Touches [.up p, .query] s v := by
        rw [← hv]
        exact touches_withQuery _ (hheard.mono (by simp)) (by simp)
      have hquery : v.query = { s.query with senseList := s.query.senseList ++ [k] } := by rw [← hv]; rfl
      have hbegin := touches_chooseAndBegin (.refl [.d, .engine, .query] v) (by simp)
      have hd : v.d = s.d := hsv .d (by simp)
      have hengine : v.engine = s.engine := hsv .engine (by simp)
      have hchoose := choosesAfter_chooseAndBegin (s := s) (v := v) (by rw [hengine]) (by rw [hd]) (hsv .restart (by simp))
      have hbegins := begins_congr hd hengine (begins_chooseAndBegin v)
      generalize chooseAndBegin v = u at *
      have hreply := touches_replied_self p tag 0x19 .ok [slot] u
      have hru : State.query _ = u.query := hreply .query (by simp)
      refine ⟨touches_replied ((hsv.mono (by simp)).then hbegin (by simp)) (by simp), begins_replied hbegins, fun hw => ?_⟩
      rw [hru, ← nextPhase_of_no_restart hs.2.2]
      have hnext := hchoose (by rw [hquery]; exact hw)
      rw [hquery] at hnext
      refine choosesNext_congr (s := u.withQuery _) ?_ ?_ ?_ ?_ rfl hnext
      · show s.d.aligned = u.d.aligned
        rw [hbegins.1]
      · exact ((hsv .tiles (by simp)).symm.trans (hbegin .tiles (by simp)).symm)
      · exact ((hsv .clock (by simp)).symm.trans (hbegin .clock (by simp)).symm)
      · exact ((hsv .settings (by simp)).symm.trans (hbegin .settings (by simp)).symm)

end Sys2Proof.Machine
end

section
/-! PROOFS. Probe-due times and query timeouts (R62 to R65, R68, R69, R73, R152): O27, O28. -/

namespace Sys2Proof.Machine

variable {s t u v : State}

/-! ## What a choice leaves outstanding -/

/-- R62, R63: a query that a choice takes has the next tag, and a probe is for a slot whose probe is due. -/
theorem outstanding_chooseQuery {senses : Bool} {r : Query} (hn : v.query.outstanding = none)
    (hr : (chooseQuery senses v).query.outstanding = some r) :
    r.tag = v.query.tagCounter + 1 ∧ r.phase = .waiting ∧ (r.kind = .probe → probeIsDue v r.slot = true) := by
  unfold chooseQuery at hr
  split at hr
  · exact nomatch hn.symm.trans hr
  · split at hr
    · next k hk =>
      obtain rfl := Option.some.inj hr
      exact ⟨rfl, rfl, fun _ => List.find?_some hk⟩
    · split at hr
      · unfold chooseSense at hr
        split at hr
        · obtain rfl := Option.some.inj hr
          exact ⟨rfl, rfl, fun h => nomatch h⟩
        · split at hr
          · split at hr
            · obtain rfl := Option.some.inj hr
              exact ⟨rfl, rfl, fun h => nomatch h⟩
            · exact nomatch hn.symm.trans hr
          · exact nomatch hn.symm.trans hr
      · exact nomatch hn.symm.trans hr

theorem outstanding_chooseAndBegin {r : Query} (hn : v.query.outstanding = none)
    (hr : (chooseAndBegin v).query.outstanding = some r) :
    r.tag = v.query.tagCounter + 1 ∧ (∀ at_, r.phase ≠ .sent at_) ∧ (r.kind = .probe → probeIsDue v r.slot = true) := by
  rw [chooseAndBegin, beginNext_query] at hr
  generalize hc : (chooseQuery v.engine.scan.isNone v).query = c at hr
  cases ho : c.outstanding with
  | none =>
    rw [QueryUnit.begun_of_not_waiting (fun r hr => nomatch ho.symm.trans hr)] at hr
    exact nomatch ho.symm.trans hr
  | some r' =>
    obtain ⟨htag, hphase, hprobe⟩ := outstanding_chooseQuery hn (hc ▸ ho)
    rw [QueryUnit.begun_of_waiting ho hphase] at hr
    obtain rfl := Option.some.inj hr
    refine ⟨htag, fun at_ h => ?_, hprobe⟩
    rw [nextPhase_eq] at h
    split at h <;> exact nomatch h

/-! ## A probe becomes due -/

theorem exec_probeDue {j : SlotId} (h : probeIsDue s j = true) : exec (.probeDue j) s = .next (chooseAndBegin s) :=
  congrArg Host.Outcome.next (if_pos h)

/-- Settles O28. -/
theorem dueProbeIsSentLowestSlotFirst : Obligations.DueProbeIsSentLowestSlotFirst := by
  unfold Obligations.DueProbeIsSentLowestSlotFirst
  intro j k s hj hk hlow htx hr
  rw [exec_probeDue hj]
  refine ⟨fun ha hn => congrArg _ ?_, fun hd hscan hw => congrArg _ ?_⟩
  · have hchoose : chooseQuery s.engine.scan.isNone s = handOver .probe k s := by
      rw [chooseQuery, if_neg (by simp [ha, hn]), find?_allSlots_eq_some.mpr ⟨hk, hlow⟩]
    rw [chooseAndBegin, hchoose, beginNext_of_query (s := handOver .probe k s) htx hr rfl rfl]
    exact State.ext_fields (by simp [transmit, handOver, queryCell, kindProbe, byte1])
  · rw [chooseAndBegin, chooseQuery, if_pos (by simpa using hd), beginNext_of_no_query htx hr hw, beginScanCell, hscan]

/-! ## Timeouts -/

theorem queryLimit_of_sent {q : Query} {at_ : Nat} (kind : QueryKind) (hq : s.query.outstanding = some q)
    (hphase : q.phase = .sent at_) : queryLimit kind s =
      if q.kind = kind ∧ s.expired 6 at_ = true then
        match kind with
        | .probe => chooseAndBegin (probeTimedOut q.slot at_ (dropQuery s))
        | .sense => chooseAndBegin (senseTimedOut q.slot (dropQuery s))
      else s := by
  rw [queryLimit, hq]
  dsimp only
  rw [hphase] <;> rfl

theorem exec_probeTimeout {q : Query} {at_ : Nat} (hq : s.query.outstanding = some q) (hphase : q.phase = .sent at_)
    (hkind : q.kind = .probe) (hexp : s.expired 6 at_ = true) :
    exec .probeTimeout s = .next (chooseAndBegin (probeTimedOut q.slot at_ (dropQuery s))) :=
  congrArg Host.Outcome.next ((queryLimit_of_sent .probe hq hphase).trans (if_pos ⟨hkind, hexp⟩))

theorem exec_senseTimeout {q : Query} {at_ : Nat} (hq : s.query.outstanding = some q) (hphase : q.phase = .sent at_)
    (hkind : q.kind = .sense) (hexp : s.expired 6 at_ = true) :
    exec .senseTimeout s = .next (chooseAndBegin (senseTimedOut q.slot (dropQuery s))) :=
  congrArg Host.Outcome.next ((queryLimit_of_sent .sense hq hphase).trans (if_pos ⟨hkind, hexp⟩))

theorem probeTimedOut_tile (k j : SlotId) (sent : Nat) (s : State) : (probeTimedOut k sent s).tile j =
    if k = j then { s.tile k with due := some (.afterProbe sent) } else s.tile j := State.tile_withTile ..

theorem probeIsDue_afterProbe {k : SlotId} {sent : Nat} (hp : (u.tile k).presence = .absent)
    (hdue : (u.tile k).due = some (.afterProbe sent)) (hset : 0 ≤ u.setting 5) (hle : sent ≤ u.clock) :
    probeIsDue u k = true ↔ u.setting 5 ≤ (u.clock - sent : Int) := by
  have hiff : probeIsDue u k = true ↔ sent + (u.setting 5).toNat ≤ u.clock := by
    rw [probeIsDue, hp, hdue]
    exact decide_eq_true_iff
  rw [hiff]
  omega

/-- What a choice on a state keeps that differs from `s` in the slots, the query unit, the drift records and the causes. -/
theorem choiceAfter (hsv : Touches [.tiles, .query, .drift, .causes] s v) :
    choosesAfter s v.query (chooseAndBegin v) ∧ begins s (chooseAndBegin v) ∧
    Touches [.d, .engine, .query] v (chooseAndBegin v) := by
  have hd : v.d = s.d := hsv .d (by simp)
  have hengine : v.engine = s.engine := hsv .engine (by simp)
  exact ⟨choosesAfter_chooseAndBegin (by rw [hengine]) (by rw [hd]) (hsv .restart (by simp)),
    begins_congr hd hengine (begins_chooseAndBegin v), touches_chooseAndBegin (.refl _ v) (by simp)⟩

/-- R69: a probe that timed out. -/
theorem probeTimeout_after {q : Query} (at_ : Nat) (hphase : q.phase = .sent at_) :
    let t := chooseAndBegin (probeTimedOut q.slot at_ (dropQuery s))
    t.tile q.slot = { s.tile q.slot with due := some (.afterProbe at_) } ∧
    t.query.outstanding ≠ some q ∧ choosesAfter s { s.query with outstanding := none } t ∧
    (∀ j, j ≠ q.slot → t.tile j = s.tile j) ∧ Touches [.d, .engine, .tiles, .query] s t ∧ begins s t := by
  intro t
  have hsv : Touches [.tiles, .query] s (probeTimedOut q.slot at_ (dropQuery s)) := by simp [dropQuery]
  have htile := fun j => probeTimedOut_tile q.slot j at_ (dropQuery s)
  have hquery : (probeTimedOut q.slot at_ (dropQuery s)).query = { s.query with outstanding := none } := rfl
  obtain ⟨hchoose, hbegins, htouch⟩ := choiceAfter (hsv.mono (by simp))
  have hkept := fun r => outstanding_chooseAndBegin (v := probeTimedOut q.slot at_ (dropQuery s)) (r := r) rfl
  simp only [hquery] at hchoose
  refine ⟨?_, fun h => (hkept q h).2.1 at_ hphase, hchoose, fun j hj => ?_, (hsv.mono (by simp)).then htouch (by simp), hbegins⟩
  · exact (State.tile_of_tiles (htouch .tiles (by simp)) q.slot).trans ((htile _).trans (if_pos rfl))
  · exact (State.tile_of_tiles (htouch .tiles (by simp)) j).trans ((htile _).trans (if_neg (Ne.symm hj)))

theorem recordMiss_drift (k j : SlotId) (s : State) : (recordMiss k s).drift.get j = if k = j then
    { s.drift.get k with
      miss := min 3 ((s.drift.get k).miss + 1)
      reading := (s.drift.get k).reading.map fun r => { r with stale := true } } else s.drift.get j := by
  have hdrift : (recordMiss k s).drift = s.drift.set k { s.drift.get k with
      miss := min 3 ((s.drift.get k).miss + 1)
      reading := (s.drift.get k).reading.map fun r => { r with stale := true } } := by
    simp [recordMiss, raise, State.withDriftOf, Config.maxMisses]
  rw [hdrift, Table.get_set]

theorem touches_recordMiss_self (k : SlotId) (s : State) : Touches [.drift, .causes] s (recordMiss k s) :=
  touches_recordMiss k (.refl _ s) (by simp)

/-- R73, R152: a third miss loses the tile, an earlier one does not. -/
theorem senseTimedOut_eq (k : SlotId) (s : State) :
    senseTimedOut k s = if (s.drift.get k).miss < 2 then recordMiss k s else loseTile k (recordMiss k s) := by
  have hmiss : ((recordMiss k s).drift.get k).miss = min 3 ((s.drift.get k).miss + 1) := by
    rw [recordMiss_drift, if_pos rfl]
  unfold senseTimedOut
  dsimp only
  rw [hmiss]
  by_cases h : (s.drift.get k).miss < 2
  · rw [if_pos h, if_neg (by simp only [Config.maxMisses]; omega)]
  · rw [if_neg h, if_pos (by simp only [Config.maxMisses]; omega)]

theorem touches_loseTile_self (k : SlotId) (s : State) : Touches [.tiles, .query, .causes] s (loseTile k s) :=
  touches_loseTile k (.refl _ s) (by simp)

theorem senseTimedOut_drift (k : SlotId) (s : State) : (senseTimedOut k s).drift = (recordMiss k s).drift := by
  rw [senseTimedOut_eq]
  split
  · rfl
  · exact touches_loseTile_self k _ .drift (by simp)

theorem loseTile_pending (k : SlotId) (s : State) : ((loseTile k s).causes.get Cause.tileLost.number).pending = true :=
  raise_pending _ _ _

theorem senseTimedOut_senseStale (k : SlotId) (s : State) :
    ((senseTimedOut k s).causes.get Cause.senseStale.number).pending = true := by
  have hmiss : ((recordMiss k s).causes.get Cause.senseStale.number).pending = true := raise_pending _ _ _
  rw [senseTimedOut_eq]
  split
  · exact hmiss
  · exact (raised_loseTile (cs := [.tileLost]) k .refl (by simp)).pending hmiss

/-- The query unit a timed out sense leaves to the choice. -/
theorem senseTimedOut_query (k : SlotId) (hn : s.query.outstanding = none) :
    (senseTimedOut k s).query = { s.query with
      outstanding := none
      senseList := if (s.drift.get k).miss < 2 then s.query.senseList
        else s.query.senseList.filter fun j => decide (j ≠ k) } := by
  have hmiss : (recordMiss k s).query = s.query := touches_recordMiss_self k s .query (by simp)
  rw [senseTimedOut_eq]
  split
  · rw [hmiss, ← hn]
  · rw [loseTile_query, loseIdentity_query, hmiss, hn]
    rfl

theorem senseTimedOut_tile (k j : SlotId) (s : State) : (senseTimedOut k s).tile j =
    if k = j ∧ ¬ (s.drift.get k).miss < 2 then ⟨.absent, none, some (.instant s.clock)⟩ else s.tile j := by
  have htouch := touches_recordMiss_self k s
  rw [senseTimedOut_eq]
  split
  · next h => rw [if_neg fun hn => hn.2 h, State.tile_of_tiles (htouch .tiles (by simp))]
  · next h =>
    rw [loseTile_tile, show (recordMiss k s).clock = s.clock from htouch .clock (by simp),
      State.tile_of_tiles (htouch .tiles (by simp))]
    simp only [h, not_false_eq_true, and_true]

/-- R73, R152: a sense that timed out. -/
theorem senseTimeout_after {q : Query} (at_ : Nat) (hphase : q.phase = .sent at_) :
    let t := chooseAndBegin (senseTimedOut q.slot (dropQuery s))
    (t.drift.get q.slot).miss = min 3 ((s.drift.get q.slot).miss + 1) ∧
    (t.drift.get q.slot).reading = (s.drift.get q.slot).reading.map (fun r => { r with stale := true }) ∧
    (t.drift.get q.slot).target = (s.drift.get q.slot).target ∧
    (t.drift.get q.slot).applied = (s.drift.get q.slot).applied ∧
    (t.causes.get Cause.senseStale.number).pending = true ∧ t.query.outstanding ≠ some q ∧
    choosesAfter s { s.query with
      outstanding := none
      senseList := if (s.drift.get q.slot).miss < 2 then s.query.senseList
        else s.query.senseList.filter fun j => decide (j ≠ q.slot) } t ∧
    (∀ j, j ≠ q.slot → t.tile j = s.tile j ∧ t.drift.get j = s.drift.get j) ∧
    Touches [.d, .engine, .tiles, .query, .drift, .causes] s t ∧ raisesOnly [.senseStale, .tileLost] s t ∧ begins s t ∧
    ((s.drift.get q.slot).miss < 2 → t.tile q.slot = s.tile q.slot) ∧
    ((s.drift.get q.slot).miss = 2 → t.tile q.slot = ⟨.absent, none, some (.instant s.clock)⟩ ∧
      (t.causes.get Cause.tileLost.number).pending = true) := by
  intro t
  have hsv : Touches [.tiles, .query, .drift, .causes] s (senseTimedOut q.slot (dropQuery s)) := by simp [dropQuery]
  have hdrift : ∀ j, (senseTimedOut q.slot (dropQuery s)).drift.get j = _ := fun j =>
    (congrArg (Table.get · j) (senseTimedOut_drift q.slot (dropQuery s))).trans (recordMiss_drift q.slot j (dropQuery s))
  have htile := fun j => senseTimedOut_tile q.slot j (dropQuery s)
  have hstale := senseTimedOut_senseStale q.slot (dropQuery s)
  have hquery := senseTimedOut_query (s := dropQuery s) q.slot rfl
  have hraised : Raised [.senseStale, .tileLost] s.causes (senseTimedOut q.slot (dropQuery s)).causes :=
    raised_senseTimedOut q.slot .refl (by simp) (by simp)
  have hlost : (s.drift.get q.slot).miss = 2 →
      ((senseTimedOut q.slot (dropQuery s)).causes.get Cause.tileLost.number).pending = true := fun h => by
    rw [senseTimedOut_eq, if_neg (by show ¬ (s.drift.get q.slot).miss < 2; omega)]
    exact loseTile_pending _ _
  have hchoice := choiceAfter hsv
  have hkept := fun r => outstanding_chooseAndBegin (v := senseTimedOut q.slot (dropQuery s)) (r := r) (by rw [hquery])
  have ht : t = chooseAndBegin (senseTimedOut q.slot (dropQuery s)) := rfl
  generalize chooseAndBegin (senseTimedOut q.slot (dropQuery s)) = w at *
  subst ht
  generalize senseTimedOut q.slot (dropQuery s) = v at *
  obtain ⟨hchoose, hbegins, htouch⟩ := hchoice
  have hcauses : t.causes = v.causes := htouch .causes (by simp)
  have hmissed : t.drift.get q.slot = { s.drift.get q.slot with
      miss := min 3 ((s.drift.get q.slot).miss + 1)
      reading := (s.drift.get q.slot).reading.map fun r => { r with stale := true } } := by
    rw [show t.drift = v.drift from htouch .drift (by simp)]
    exact (hdrift q.slot).trans (if_pos rfl)
  have hslot : t.tile q.slot = _ := (State.tile_of_tiles (htouch .tiles (by simp)) q.slot).trans (htile q.slot)
  rw [hquery] at hchoose
  refine ⟨by rw [hmissed], by rw [hmissed], by rw [hmissed], by rw [hmissed], by rw [hcauses]; exact hstale,
    fun h => (hkept q h).2.1 at_ hphase, hchoose, fun j hj => ⟨?_, ?_⟩, (hsv.mono (by simp)).then htouch (by simp),
    Raised.raisesOnly (by rw [hcauses]; exact hraised), hbegins, fun h => ?_, fun h => ⟨?_, by rw [hcauses]; exact hlost h⟩⟩
  · exact (State.tile_of_tiles (htouch .tiles (by simp)) j).trans ((htile j).trans (if_neg fun h => hj h.1.symm))
  · rw [show t.drift = v.drift from htouch .drift (by simp)]
    exact (hdrift j).trans (if_neg (Ne.symm hj))
  · exact hslot.trans (if_neg fun hn => hn.2 h)
  · exact hslot.trans (if_pos ⟨rfl, by show ¬ (s.drift.get q.slot).miss < 2; omega⟩)

/-- Settles O27. -/
theorem queryTimesOut : Obligations.QueryTimesOut := by
  unfold Obligations.QueryTimesOut
  intro q at_ s hq hphase hle hset
  refine ⟨fun hlt => ?_, fun hkind hge => ?_, fun hkind hge => ?_⟩
  · have hnot : ∀ kind, queryLimit kind s = s := fun kind =>
      (queryLimit_of_sent kind hq hphase).trans (if_neg fun h => by
        rw [expired_eq_false hle hlt] at h
        exact Bool.false_ne_true h.2)
    exact ⟨congrArg _ (hnot .probe), congrArg _ (hnot .sense)⟩
  · obtain ⟨htile, hout, hchoose, hother, htouch, hbegins⟩ := probeTimeout_after (s := s) at_ hphase
    refine ⟨_, exec_probeTimeout hq hphase hkind ((expired_iff hle hset).mpr hge), htile, hout, hchoose, hother, htouch,
      hbegins, fun u hu hp hset5 hleu => ?_⟩
    have hdue := probeIsDue_afterProbe (u := u) (k := q.slot) (sent := at_) (by rw [hu, htile]; exact hp)
      (by rw [hu, htile]) hset5 hleu
    refine ⟨fun hlt => congrArg _ (if_neg ?_), hdue.mpr⟩
    rw [hdue]
    omega
  · exact ⟨_, exec_senseTimeout hq hphase hkind ((expired_iff hle hset).mpr hge), senseTimeout_after at_ hphase⟩

end Sys2Proof.Machine
end

section
/-! PROOFS. The drift records and what identifies a tile (R60, R70, R138 to R143): the rules that O25, O26, O32, O34 and
O38 use. -/

namespace Sys2Proof.Machine

variable {s t u v : State}

/-! ## Targets -/

/-- R138 to R140: what a slot's targets are formed from. -/
theorem slotRawTargets_congr {k : SlotId} (htile : t.tile k = s.tile k) (hrecords : t.records = s.records)
    (hset : t.settings = s.settings) (hreading : (t.drift.get k).reading = (s.drift.get k).reading) :
    slotRawTargets t k = slotRawTargets s k := by
  unfold slotRawTargets slotCoefficients boundRecord currentHours fallbackCoefficients State.setting
  rw [htile, hrecords, hset, hreading]

theorem retargeted_congr {k : SlotId} {d : Drift} (htile : t.tile k = s.tile k) (hrecords : t.records = s.records)
    (hset : t.settings = s.settings) (hdrift : t.drift.get k = s.drift.get k)
    (hcause : (s.causes.get Cause.driftRange.number).pending = true → (t.causes.get Cause.driftRange.number).pending = true)
    (h : retargeted k d s) : retargeted k d t := by
  obtain ⟨hd, hclamp⟩ := h
  have hraw := slotRawTargets_congr htile hrecords hset (congrArg Drift.reading hdrift)
  unfold retargeted
  rw [hraw, hdrift]
  exact ⟨hd, fun v hv hout => hcause (hclamp v hv hout)⟩

/-- What a choice keeps of the targets. -/
theorem retargeted_of_touches {k : SlotId} {d : Drift} (htouch : Touches [.d, .engine, .query] s t) (h : retargeted k d s) :
    retargeted k d t :=
  retargeted_congr (State.tile_of_tiles (htouch .tiles (by simp)) k) (htouch .records (by simp)) (htouch .settings (by simp))
    (by rw [show t.drift = s.drift from htouch .drift (by simp)])
    (fun hp => by rwa [show t.causes = s.causes from htouch .causes (by simp)]) h

theorem touches_computeTargets_self (k : SlotId) (s : State) : Touches [.drift, .causes] s (computeTargets k s) :=
  touches_computeTargets k (.refl _ s) (by simp)

theorem computeTargets_of_not_sent {k : SlotId} (h : (s.tile k).presence.isSent = false) : computeTargets k s = s :=
  if_neg (by rw [h]; exact Bool.false_ne_true)

theorem withDriftOf_drift (s : State) (k j : SlotId) (x : Drift) :
    (s.withDriftOf k x).drift.get j = if k = j then x else s.drift.get j := by
  rw [← Table.get_set]
  simp [State.withDriftOf]

theorem withDriftOf_kept (s : State) (k : SlotId) (x : Drift) : Touches [.drift] s (s.withDriftOf k x) :=
  touches_withDriftOf k x (.refl _ s) (by simp)

/-- R141: the targets of a MATCHED or UNKNOWN slot are computed afresh, and nothing else of the drift records changes. -/
theorem computeTargets_drift (k j : SlotId) (s : State) : (computeTargets k s).drift.get j =
    if k = j ∧ (s.tile k).presence.isSent = true then
      { s.drift.get k with target := (slotRawTargets s k).map clampTarget } else s.drift.get j := by
  unfold computeTargets
  split
  · next h =>
    have hset : (s.withDriftOf k { s.drift.get k with target := (slotRawTargets s k).map clampTarget }).drift.get j =
        if k = j ∧ (s.tile k).presence.isSent = true then
          { s.drift.get k with target := (slotRawTargets s k).map clampTarget } else s.drift.get j := by
      rw [withDriftOf_drift]
      simp only [h, and_true]
    dsimp only
    split
    · simpa only [raise, State.withCauses_fields] using hset
    · exact hset
  · next h => rw [if_neg fun hn => h hn.2]

theorem computeTargets_drift_other {k j : SlotId} (h : j ≠ k) (s : State) :
    (computeTargets k s).drift.get j = s.drift.get j := by
  rw [computeTargets_drift, if_neg fun hn => h hn.1.symm]

theorem computeTargets_pending {k : SlotId} (hsent : (s.tile k).presence.isSent = true) {v : Int}
    (hv : v ∈ (slotRawTargets s k).toList) (hout : v < 49152 ∨ 98304 < v) :
    ((computeTargets k s).causes.get Cause.driftRange.number).pending = true := by
  have hclamped : targetsClamped (slotRawTargets s k) = true :=
    List.any_eq_true.mpr ⟨v, hv, Bool.or_eq_true_iff.mpr (hout.imp decide_eq_true decide_eq_true)⟩
  unfold computeTargets
  rw [if_pos hsent]
  dsimp only
  rw [if_pos hclamped]
  exact raise_pending _ _ _

/-- R139 to R141: targets computed afresh. -/
theorem retargeted_computeTargets {k : SlotId} (hsent : (s.tile k).presence.isSent = true) :
    retargeted k (s.drift.get k) (computeTargets k s) := by
  have htouch := touches_computeTargets_self k s
  have hdrift : (computeTargets k s).drift.get k =
      { s.drift.get k with target := (slotRawTargets s k).map clampTarget } := by
    rw [computeTargets_drift, if_pos ⟨rfl, hsent⟩]
  have hraw : slotRawTargets (computeTargets k s) k = slotRawTargets s k :=
    slotRawTargets_congr (State.tile_of_tiles (htouch .tiles (by simp)) k) (htouch .records (by simp))
      (htouch .settings (by simp)) (by rw [hdrift])
  unfold retargeted
  rw [hraw]
  exact ⟨hdrift, fun v hv hout => computeTargets_pending hsent hv hout⟩

/-! ## The drift record at identification -/

/-- The state in which the targets of an identified slot are set: its reading absent, its miss count 0. -/
def freshDrift (k : SlotId) (s : State) : State := s.withDriftOf k { s.drift.get k with reading := none, miss := 0 }

/-- The targets of an identified slot. -/
def freshTargets (k : SlotId) (s : State) : State :=
  if ((freshDrift k s).tile k).presence.isSent then computeTargets k (freshDrift k s)
  else (freshDrift k s).withDriftOf k { (freshDrift k s).drift.get k with target := Rgb.all Config.unity }

theorem initialiseDrift_eq (k : SlotId) (s : State) : initialiseDrift k s =
    (freshTargets k s).withDriftOf k { (freshTargets k s).drift.get k with
      applied := ((freshTargets k s).drift.get k).target } := rfl

theorem freshDrift_drift (k j : SlotId) (s : State) : (freshDrift k s).drift.get j =
    if k = j then { s.drift.get k with reading := none, miss := 0 } else s.drift.get j := withDriftOf_drift ..

theorem freshTargets_other {k j : SlotId} (h : j ≠ k) (s : State) : (freshTargets k s).drift.get j = s.drift.get j := by
  have hfresh : (freshDrift k s).drift.get j = s.drift.get j := (freshDrift_drift k j s).trans (if_neg (Ne.symm h))
  unfold freshTargets
  split
  · rw [computeTargets_drift_other h, hfresh]
  · rw [withDriftOf_drift, if_neg (Ne.symm h), hfresh]

/-- Reading and miss count at identification, and the targets of a tile that is not MATCHED or UNKNOWN. -/
theorem freshTargets_self (k : SlotId) (s : State) :
    ((freshTargets k s).drift.get k).reading = none ∧ ((freshTargets k s).drift.get k).miss = 0 ∧
    ((s.tile k).presence.isSent = false → ((freshTargets k s).drift.get k).target = ⟨65536, 65536, 65536⟩) ∧
    ((s.tile k).presence.isSent = true → retargeted k ((freshTargets k s).drift.get k) (freshTargets k s)) := by
  have hfresh : (freshDrift k s).drift.get k = { s.drift.get k with reading := none, miss := 0 } :=
    (freshDrift_drift k k s).trans (if_pos rfl)
  have htile : (freshDrift k s).tile k = s.tile k := State.tile_of_tiles ((withDriftOf_kept _ _ _) .tiles (by simp)) k
  unfold freshTargets
  cases hsent : (s.tile k).presence.isSent with
  | true =>
    rw [if_pos (by rw [htile, hsent])]
    have hre := retargeted_computeTargets (s := freshDrift k s) (k := k) (by rw [htile, hsent])
    have hd := hre.1
    rw [hfresh] at hd
    have hself : retargeted k ((computeTargets k (freshDrift k s)).drift.get k) (computeTargets k (freshDrift k s)) := by
      refine ⟨?_, hre.2⟩
      rw [hd]
    exact ⟨by rw [hd], by rw [hd], fun h => (nomatch h), fun _ => hself⟩
  | false =>
    rw [if_neg (by rw [htile, hsent]; exact Bool.false_ne_true), withDriftOf_drift, if_pos rfl, hfresh]
    exact ⟨rfl, rfl, fun _ => rfl, fun h => nomatch h⟩

/-- R143: the drift record a tile gets when it is identified. -/
theorem initialiseDrift_self (k : SlotId) (s : State) :
    ((initialiseDrift k s).drift.get k).reading = none ∧ ((initialiseDrift k s).drift.get k).miss = 0 ∧
    ((initialiseDrift k s).drift.get k).applied = ((initialiseDrift k s).drift.get k).target ∧
    ((s.tile k).presence.isSent = false → ((initialiseDrift k s).drift.get k).target = ⟨65536, 65536, 65536⟩) ∧
    ((s.tile k).presence.isSent = true → retargeted k ((initialiseDrift k s).drift.get k) (initialiseDrift k s)) := by
  obtain ⟨hreading, hmiss, hunity, hre⟩ := freshTargets_self k s
  have hdrift : (initialiseDrift k s).drift.get k = { (freshTargets k s).drift.get k with
      applied := ((freshTargets k s).drift.get k).target } := by
    rw [initialiseDrift_eq, withDriftOf_drift, if_pos rfl]
  have hkept : Touches [.drift] (freshTargets k s) (initialiseDrift k s) := withDriftOf_kept _ _ _
  have hraw : slotRawTargets (initialiseDrift k s) k = slotRawTargets (freshTargets k s) k :=
    slotRawTargets_congr (State.tile_of_tiles (hkept .tiles (by simp)) k) (hkept .records (by simp))
      (hkept .settings (by simp)) (by rw [hdrift])
  refine ⟨by rw [hdrift]; exact hreading, by rw [hdrift]; exact hmiss, by rw [hdrift],
    fun h => by rw [hdrift]; exact hunity h, fun h => ?_⟩
  obtain ⟨htarget, hclamp⟩ := hre h
  unfold retargeted
  rw [hraw, show (initialiseDrift k s).causes = (freshTargets k s).causes from hkept .causes (by simp)]
  refine ⟨?_, hclamp⟩
  rw [hdrift]
  simp only [Drift.mk.injEq, true_and, and_true]
  exact congrArg Drift.target htarget

theorem initialiseDrift_other {k j : SlotId} (h : j ≠ k) (s : State) :
    (initialiseDrift k s).drift.get j = s.drift.get j := by
  rw [initialiseDrift_eq, withDriftOf_drift, if_neg (Ne.symm h), freshTargets_other h]

/-! ## What a tile is identified as -/

theorem supported_eq (f : TileFacts) : supported f =
    (decide (16 ≤ f.width.toNat ∧ f.width.toNat ≤ 256 ∧ f.width.toNat % 8 = 0) &&
      decide (16 ≤ f.height.toNat ∧ f.height.toNat ≤ 256 ∧ f.height.toNat % 8 = 0) &&
      (f.depth == 12 || f.depth == 14 || f.depth == 16)) := by
  have hsize : ∀ n, sizeOk n = decide (16 ≤ n ∧ n ≤ 256 ∧ n % 8 = 0) := fun n => by
    rw [Bool.eq_iff_iff]
    simp [sizeOk, and_assoc]
  have hdepth : ∀ n : Nat, n < 256 → (f.depth.toNat == n) = (f.depth == BitVec.ofNat 8 n) := fun n hn => by
    rw [Bool.eq_iff_iff, beq_iff_eq, beq_iff_eq, ← BitVec.toNat_inj, toNat_ofNat_of_lt hn]
  unfold supported
  rw [hsize, hsize, hdepth 12 (by decide), hdepth 14 (by decide), hdepth 16 (by decide)]
  rfl

/-- R24, R60: the tests of identification, as `testedAs` writes them. -/
theorem identifyAs_eq (p : Plan) (records : List Record) (f : TileFacts) : identifyAs p records f = testedAs p records f := by
  have hfits : consistent p f = (match p with
      | .canvas c => decide (c.implied = (f.width.toNat, f.height.toNat))
      | _ => true) := by
    unfold consistent
    cases p <;> rfl
  have hknown : libraryMatches records f = (match findRecord records f.serial with
      | some r => decide (recWidth r = f.width.toNat ∧ recHeight r = f.height.toNat)
      | none => false) := by
    unfold libraryMatches
    cases findRecord records f.serial with
    | none => rfl
    | some r => exact (Bool.decide_and _ _).symm
  have htested : testedAs p records f =
      if supported f && consistent p f then (if libraryMatches records f then .matched else .unknown) else .misfit := by
    rw [supported_eq, hfits, hknown]
    rfl
  rw [htested, identifyAs]
  cases supported f <;> cases consistent p f <;> rfl

end Sys2Proof.Machine
end

section
/-! PROOFS. Accepted IDENTs and SENSE-REPLYs (R60, R66, R70 to R72, R143, R149 to R151): O25, O26. -/

namespace Sys2Proof.Machine

variable {s t u v : State}

/-! ## The query answered -/

theorem answeredQuery_of_outstanding {kind : QueryKind} {slot : Byte} {tag : W16} {q : Query} (hq : s.query.outstanding = some q)
    (hkind : q.kind = kind) (hslot : q.slot.val = slot.toNat) (htag : q.tag = tag) (hphase : q.phase ≠ .waiting) :
    answeredQuery s kind slot tag = some q.slot := by
  rw [answeredQuery, hq]
  exact if_pos ⟨hkind, hslot, htag, hphase⟩

theorem exec_ident {q : Query} {tag : W16} {slot : Byte} {serial : W64} {w h : W16} {depth : Byte} {hours : BitVec 24}
    (hl : s.listensD) (hq : s.query.outstanding = some q) (hkind : q.kind = .probe) (hslot : q.slot.val = slot.toNat)
    (htag : q.tag = tag) (hphase : q.phase ≠ .waiting) : exec (.ident tag slot serial w h depth hours) s =
      .next (chooseAndBegin (identify q.slot ⟨serial, w, h, depth, hours⟩ (dropQuery s.heardD))) := by
  show Host.Outcome.next (dCell _ s) = _
  rw [dCell_listens _ hl, takeIdent, answeredQuery_of_outstanding (by rw [heardD_query]; exact hq) hkind hslot htag hphase]

theorem exec_senseReply {q : Query} {tag : W16} {slot : Byte} {short temperature : W16} {hours : BitVec 24}
    (hl : s.listensD) (hq : s.query.outstanding = some q) (hkind : q.kind = .sense) (hslot : q.slot.val = slot.toNat)
    (htag : q.tag = tag) (hphase : q.phase ≠ .waiting) : exec (.senseReply tag slot short temperature hours) s =
      .next (chooseAndBegin (acceptReading q.slot short temperature hours (dropQuery s.heardD))) := by
  show Host.Outcome.next (dCell _ s) = _
  rw [dCell_listens _ hl, takeSenseReply, answeredQuery_of_outstanding (by rw [heardD_query]; exact hq) hkind hslot htag hphase]

theorem heardD_d (s : State) : s.heardD.d.tx = s.d.tx ∧ s.heardD.d.aligned = s.d.aligned := by simp [State.heardD]

theorem touches_heardD (s : State) : Touches [.d] s s.heardD := touches_withD _ (.refl _ s) (by simp)

/-- What a choice after a return cell keeps: `v` differs from the state in which the cell was counted in the slots, the query
unit, the drift records and the causes. -/
theorem choiceAfterReturn (hsv : Touches [.tiles, .query, .drift, .causes] s.heardD v) :
    choosesAfter s v.query (chooseAndBegin v) ∧ begins s.heardD (chooseAndBegin v) ∧
    Touches [.d, .engine, .query] v (chooseAndBegin v) ∧
    Touches [.d, .engine, .tiles, .query, .drift, .causes] s (chooseAndBegin v) := by
  have hd : v.d = s.heardD.d := hsv .d (by simp)
  have hheard : Touches [.tiles, .query, .drift, .causes, .d] s v := ((touches_heardD s).mono (by simp)).then hsv (by simp)
  obtain ⟨-, hbegins, htouch⟩ := choiceAfter hsv
  exact ⟨choosesAfter_chooseAndBegin (by rw [show v.engine = s.engine from hheard .engine (by simp)])
      (by rw [hd, (heardD_d s).1]) (hheard .restart (by simp)), hbegins, htouch, (hheard.mono (by simp)).then htouch (by simp)⟩

/-! ## IDENT -/

/-- The slot with its facts, before its drift record is set. -/
def entered (k : SlotId) (f : TileFacts) (s : State) : State :=
  raise .tileNew (some k) (raiseEntered (identifyAs (s.plans.get k) s.records f) k
    (s.withTile k ⟨identifyAs (s.plans.get k) s.records f, some f, none⟩))

theorem identify_eq (k : SlotId) (f : TileFacts) (s : State) : identify k f s = initialiseDrift k (entered k f s) := rfl

theorem touches_entered (k : SlotId) (f : TileFacts) (s : State) : Touches [.tiles, .causes] s (entered k f s) :=
  touches_raise _ _ (touches_raiseEntered _ k (touches_withTile k _ (.refl _ s) (by simp)) (by simp)) (by simp)

theorem raiseEntered_pending {p : Presence} (k : SlotId) (s : State) :
    (p = .misfit → ((raiseEntered p k s).causes.get Cause.misfit.number).pending = true) ∧
    (p = .unknown → ((raiseEntered p k s).causes.get Cause.unknownTile.number).pending = true) := by
  refine ⟨?_, ?_⟩ <;> rintro rfl <;> exact raise_pending _ _ _

theorem touches_initialiseDrift_self (k : SlotId) (s : State) : Touches [.drift, .causes] s (initialiseDrift k s) :=
  touches_initialiseDrift k (.refl _ s) (by simp)

/-- The causes pending once a tile has been identified. -/
theorem identify_pending (k : SlotId) (f : TileFacts) (s : State) :
    ((identify k f s).causes.get Cause.tileNew.number).pending = true ∧
    (identifyAs (s.plans.get k) s.records f = .misfit →
      ((identify k f s).causes.get Cause.misfit.number).pending = true) ∧
    (identifyAs (s.plans.get k) s.records f = .unknown →
      ((identify k f s).causes.get Cause.unknownTile.number).pending = true) := by
  have hdrift : Raised [.driftRange] (entered k f s).causes (identify k f s).causes :=
    raised_initialiseDrift k .refl (by simp)
  have hnew := raised_raise (cs := [.tileNew]) .tileNew (some k)
    (Raised.refl (a := (raiseEntered (identifyAs (s.plans.get k) s.records f) k
      (s.withTile k ⟨identifyAs (s.plans.get k) s.records f, some f, none⟩)).causes)) (by simp)
  obtain ⟨hmisfit, hunknown⟩ := raiseEntered_pending (p := identifyAs (s.plans.get k) s.records f) k
    (s.withTile k ⟨identifyAs (s.plans.get k) s.records f, some f, none⟩)
  exact ⟨hdrift.pending (raise_pending _ _ _), fun h => hdrift.pending (hnew.pending (hmisfit h)),
    fun h => hdrift.pending (hnew.pending (hunknown h))⟩

theorem isSent_eq_false {p : Presence} (hp : p ≠ .matched) (hu : p ≠ .unknown) : p.isSent = false := by
  cases p <;> simp_all [Presence.isSent]

/-- R139: without a reading the targets of an UNKNOWN slot are 1.0. -/
theorem target_unknown {k : SlotId} (hp : (s.tile k).presence = .unknown) (hr : (s.drift.get k).reading = none) :
    (slotRawTargets s k).map clampTarget = ⟨65536, 65536, 65536⟩ := by
  have hx : ∀ (kT : Int) (n : Nat), driftX kT 0 0 n = 0 := fun kT n => by simp [driftX]
  rw [slotRawTargets, slotCoefficients_of_unknown hp, hr]
  simp only [rawTargets, fallbackCoefficients, Rgb.zip, Rgb.map, Rgb.all, hx]
  decide

/-- R143: the drift record of the tile just identified, and those of the other slots. -/
theorem identify_drift (k : SlotId) (f : TileFacts) (s : State) :
    ((identify k f s).drift.get k).reading = none ∧ ((identify k f s).drift.get k).miss = 0 ∧
    ((identify k f s).drift.get k).applied = ((identify k f s).drift.get k).target ∧
    (identifyAs (s.plans.get k) s.records f ≠ .matched →
      ((identify k f s).drift.get k).target = ⟨65536, 65536, 65536⟩) ∧
    (identifyAs (s.plans.get k) s.records f = .matched → retargeted k ((identify k f s).drift.get k) (identify k f s)) ∧
    ∀ j, j ≠ k → (identify k f s).drift.get j = s.drift.get j := by
  have hentered : (entered k f s).drift = s.drift := touches_entered k f s .drift (by simp)
  have hpresence : ((entered k f s).tile k).presence = identifyAs (s.plans.get k) s.records f := by
    have htiles : (entered k f s).tiles = (identify k f s).tiles :=
      (touches_initialiseDrift_self k (entered k f s) .tiles (by simp)).symm
    rw [State.tile, htiles, identify_tiles, Table.get_set_self]
  obtain ⟨hreading, hmiss, happlied, hunity, hre⟩ := initialiseDrift_self k (entered k f s)
  have htile := State.tile_of_tiles (touches_initialiseDrift_self k (entered k f s) .tiles (by simp)) k
  rw [← identify_eq] at hreading hmiss happlied hunity hre htile
  rw [hpresence] at hunity hre
  refine ⟨hreading, hmiss, happlied, fun hp => ?_, fun hp => hre (by rw [hp]; rfl), fun j hj => ?_⟩
  · by_cases hu : identifyAs (s.plans.get k) s.records f = .unknown
    · have hd := congrArg Drift.target (hre (by rw [hu]; rfl)).1
      exact hd.trans (target_unknown (by rw [htile, hpresence, hu]) hreading)
    · exact hunity (isSent_eq_false hp hu)
  · rw [identify_eq, initialiseDrift_other hj, hentered]

/-- Settles O25. -/
theorem acceptedIdentIdentifiesTile : Obligations.AcceptedIdentIdentifiesTile := by
  unfold Obligations.AcceptedIdentIdentifiesTile
  intro q tag slot serial w h depth hours s hl hq hkind hslot htag hphase
  refine ⟨_, exec_ident hl hq hkind hslot htag hphase, ?_⟩
  generalize hf : (⟨serial, w, h, depth, hours⟩ : TileFacts) = f
  have hheard := touches_heardD s
  have hsv : Touches [.tiles, .query, .drift, .causes] s.heardD (identify q.slot f (dropQuery s.heardD)) := by
    simp [dropQuery]
  have htiles := identify_tiles q.slot f (dropQuery s.heardD)
  obtain ⟨hnew, hmisfit, hunknown⟩ := identify_pending q.slot f (dropQuery s.heardD)
  obtain ⟨hreading, hmiss, happlied, hunity, hre, hother⟩ := identify_drift q.slot f (dropQuery s.heardD)
  have hraised : Raised [.tileNew, .misfit, .unknownTile, .driftRange] s.causes
      (identify q.slot f (dropQuery s.heardD)).causes :=
    raised_identify q.slot f .refl (by simp) (by simp) (by simp) (by simp)
  have hquery : (identify q.slot f (dropQuery s.heardD)).query = { s.query with outstanding := none } :=
    touches_identify q.slot f (.refl [.tiles, .drift, .causes] (dropQuery s.heardD)) (by simp) .query (by simp)
  have hplans : (dropQuery s.heardD).plans = s.plans := rfl
  have hrecords : (dropQuery s.heardD).records = s.records := rfl
  have htiles0 : (dropQuery s.heardD).tiles = s.tiles := rfl
  have hdrift0 : (dropQuery s.heardD).drift = s.drift := rfl
  rw [hplans, hrecords] at hmisfit hunknown hunity hre htiles
  rw [htiles0] at htiles
  simp only [hdrift0] at hother
  generalize identify q.slot f (dropQuery s.heardD) = v at *
  obtain ⟨hchoose, hbegins, htouch, hall⟩ := choiceAfterReturn hsv
  have hkept := outstanding_chooseAndBegin (v := v) (r := q) (by rw [hquery])
  generalize chooseAndBegin v = t at *
  have htile : ∀ j, t.tile j = if q.slot = j then ⟨identifyAs (s.plans.get q.slot) s.records f, some f, none⟩
      else s.tile j := fun j => by
    rw [State.tile, show t.tiles = v.tiles from htouch .tiles (by simp), htiles, Table.get_set]
    rfl
  have hself := (htile q.slot).trans (if_pos rfl)
  have hcauses : t.causes = v.causes := htouch .causes (by simp)
  have hdrift : t.drift = v.drift := htouch .drift (by simp)
  rw [hquery] at hchoose
  rw [hcauses, hdrift, hself]
  refine ⟨rfl, rfl, ?_, hnew, hmisfit, hunknown, hreading, hmiss, happlied, hunity, fun hp => ?_, fun ho => ?_, hchoose,
    fun j hj => ⟨(htile j).trans (if_neg (Ne.symm hj)), hother j hj⟩, hall, Raised.raisesOnly (by rw [hcauses]; exact hraised),
    hbegins⟩
  · rw [identifyAs_eq, ← hf]
    rfl
  · exact retargeted_of_touches htouch (hre hp)
  · have hdue := probeIsDue_absent ((hkept ho).2.2 hkind)
    rw [State.tile, htiles, Table.get_set_self] at hdue
    have hid := identifyAs_identified (s.plans.get q.slot) s.records f
    rw [show identifyAs (s.plans.get q.slot) s.records f = .absent from hdue] at hid
    exact nomatch hid

/-! ## SENSE-REPLY -/

theorem touches_storeReading_self (k : SlotId) (temperature : Int) (hours : Nat) (s : State) :
    Touches [.drift, .causes] s (storeReading k temperature hours s) :=
  touches_storeReading k temperature hours (.refl _ s) (by simp)

/-- The state in which a stored reading's targets are computed. -/
def read (k : SlotId) (temperature : Int) (hours : Nat) (s : State) : State :=
  let s1 := if clampTemperature temperature ≠ temperature then raise .driftRange (some k) s else s
  s1.withDriftOf k { s.drift.get k with
    reading := some ⟨clampTemperature temperature, max hours (currentHours (s.drift.get k) (s.tile k).facts), false⟩
    miss := 0 }

theorem storeReading_eq (k : SlotId) (temperature : Int) (hours : Nat) (s : State) :
    storeReading k temperature hours s = computeTargets k (read k temperature hours s) := by
  unfold storeReading read
  dsimp only
  split
  · simp only [raise, State.withCauses_fields, State.tile]
  · rfl

theorem read_drift (k j : SlotId) (temperature : Int) (hours : Nat) (s : State) :
    (read k temperature hours s).drift.get j = if k = j then { s.drift.get k with
      reading := some ⟨clampTemperature temperature, max hours (currentHours (s.drift.get k) (s.tile k).facts), false⟩
      miss := 0 } else s.drift.get j := by
  unfold read
  dsimp only
  rw [withDriftOf_drift]
  split
  · rfl
  · split <;> simp [raise]

theorem touches_read (k : SlotId) (temperature : Int) (hours : Nat) (s : State) :
    Touches [.drift, .causes] s (read k temperature hours s) := by
  unfold read
  refine touches_withDriftOf k _ ?_ (by simp)
  split
  · exact touches_raise _ _ (.refl _ s) (by simp)
  · exact .refl _ s

/-- R149 to R151: the drift records once a reading has been stored. -/
theorem storeReading_drift (k : SlotId) (temperature : Int) (hours : Nat) (s : State) :
    let t := storeReading k temperature hours s
    (t.drift.get k).reading =
      some ⟨clampTemperature temperature, max hours (currentHours (s.drift.get k) (s.tile k).facts), false⟩ ∧
    (t.drift.get k).miss = 0 ∧ (t.drift.get k).applied = (s.drift.get k).applied ∧
    ((s.tile k).presence.isSent = false → (t.drift.get k).target = (s.drift.get k).target) ∧
    ((s.tile k).presence.isSent = true → retargeted k (t.drift.get k) t) ∧
    (∀ j, j ≠ k → t.drift.get j = s.drift.get j) ∧
    (temperature < -160 ∨ 500 < temperature → (t.causes.get Cause.driftRange.number).pending = true) := by
  have hread := (read_drift k k temperature hours s).trans (if_pos rfl)
  have hother := fun j (hj : j ≠ k) => (read_drift k j temperature hours s).trans (if_neg (Ne.symm hj))
  have htile := State.tile_of_tiles (touches_read k temperature hours s .tiles (by simp)) k
  have hrange : temperature < -160 ∨ 500 < temperature →
      ((read k temperature hours s).causes.get Cause.driftRange.number).pending = true := fun h => by
    have hclamp : clampTemperature temperature ≠ temperature := by
      simp only [clampTemperature, clampInt]
      omega
    unfold read
    rw [if_pos hclamp, causes_withDriftOf]
    exact raise_pending _ _ _
  simp only [storeReading_eq]
  generalize read k temperature hours s = v at *
  have hdrift := computeTargets_drift k k v
  rw [htile, hread] at hdrift
  have hpending := fun h => (raised_computeTargets (cs := [.driftRange]) k (.refl (a := v.causes)) (by simp)).pending (hrange h)
  cases hsent : (s.tile k).presence.isSent with
  | true =>
    have hre := retargeted_computeTargets (s := v) (k := k) (by rw [htile, hsent])
    rw [if_pos ⟨rfl, hsent⟩] at hdrift
    have hself : retargeted k ((computeTargets k v).drift.get k) (computeTargets k v) := ⟨by rw [hre.1], hre.2⟩
    exact ⟨by rw [hdrift], by rw [hdrift], by rw [hdrift], fun h => (nomatch h), fun _ => hself,
      fun j hj => (computeTargets_drift_other hj v).trans (hother j hj), hpending⟩
  | false =>
    rw [if_neg fun h => by rw [hsent] at h; exact Bool.false_ne_true h.2] at hdrift
    exact ⟨by rw [hdrift], by rw [hdrift], by rw [hdrift], fun _ => by rw [hdrift], fun h => (nomatch h),
      fun j hj => (computeTargets_drift_other hj v).trans (hother j hj), hpending⟩

theorem acceptReading_of_same {k : SlotId} {f : TileFacts} {short temperature : W16} {hours : BitVec 24}
    (hf : (s.tile k).facts = some f) (h : f.serial.setWidth 16 = short) :
    acceptReading k short temperature hours s = storeReading k temperature.toInt hours.toNat s := by
  rw [acceptReading, hf]
  exact if_pos h

theorem acceptReading_of_other {k : SlotId} {f : TileFacts} {short temperature : W16} {hours : BitVec 24}
    (hf : (s.tile k).facts = some f) (h : f.serial.setWidth 16 ≠ short) :
    acceptReading k short temperature hours s = loseTile k s := by
  rw [acceptReading, hf]
  exact if_neg h

/-- R138: the current hours of a slot that has facts. -/
theorem currentHours_of_facts (d : Drift) (f : TileFacts) : currentHours d (some f) = match d.reading with
    | some r => r.hours
    | none => f.hours.toNat := by
  unfold currentHours
  cases d.reading <;> rfl

/-- R66: what follows a sense reply whatever it brings: `v` is the state it leaves to the choice. -/
theorem senseReply_after {q : Query} (hq : s.query.outstanding = some q)
    (hsv : Touches [.tiles, .query, .drift, .causes] s.heardD v)
    (hraised : Raised [.driftRange, .tileLost] s.causes v.causes) (hn : v.query.outstanding = none)
    (htag : v.query.tagCounter = s.query.tagCounter) :
    choosesAfter s v.query (chooseAndBegin v) ∧ begins s.heardD (chooseAndBegin v) ∧
    Touches [.d, .engine, .query] v (chooseAndBegin v) ∧
    Touches [.d, .engine, .tiles, .query, .drift, .causes] s (chooseAndBegin v) ∧
    raisesOnly [.driftRange, .tileLost] s (chooseAndBegin v) ∧
    (tagLaw s → (chooseAndBegin v).query.outstanding ≠ some q) := by
  obtain ⟨hchoose, hbegins, htouch, hall⟩ := choiceAfterReturn hsv
  refine ⟨hchoose, hbegins, htouch, hall, Raised.raisesOnly ?_, fun hlaw ho => ?_⟩
  · rw [show (chooseAndBegin v).causes = v.causes from htouch .causes (by simp)]
    exact hraised
  · have hnext := (outstanding_chooseAndBegin hn ho).1
    rw [hlaw q hq, htag] at hnext
    have hne : s.query.tagCounter ≠ s.query.tagCounter + 1 := by
      generalize s.query.tagCounter = n
      bv_omega
    exact hne hnext

/-- Settles O26. -/
theorem senseReplyStoresReadingOrLosesTile : Obligations.SenseReplyStoresReadingOrLosesTile := by
  unfold Obligations.SenseReplyStoresReadingOrLosesTile
  intro q f tag slot short temperature hours s hl hq hkind hslot htag hphase hf
  refine ⟨_, exec_senseReply hl hq hkind hslot htag hphase, ?_⟩
  have hfacts : ((dropQuery s.heardD).tile q.slot).facts = some f := hf
  have htile0 : ∀ j, (dropQuery s.heardD).tile j = s.tile j := fun _ => rfl
  have hdrift0 : (dropQuery s.heardD).drift = s.drift := rfl
  by_cases hshort : f.serial.setWidth 16 = short
  · rw [acceptReading_of_same hfacts hshort]
    have hstore := touches_storeReading_self q.slot temperature.toInt hours.toNat (dropQuery s.heardD)
    have hsv : Touches [.tiles, .query, .drift, .causes] s.heardD
        (storeReading q.slot temperature.toInt hours.toNat (dropQuery s.heardD)) := by simp [dropQuery]
    have hraised : Raised [.driftRange, .tileLost] s.causes
        (storeReading q.slot temperature.toInt hours.toNat (dropQuery s.heardD)).causes :=
      raised_storeReading _ _ _ .refl (by simp)
    have hquery : (storeReading q.slot temperature.toInt hours.toNat (dropQuery s.heardD)).query =
        { s.query with outstanding := none } := hstore .query (by simp)
    obtain ⟨hreading, hmiss, happlied, hkeep, hre, hother, hrange⟩ :=
      storeReading_drift q.slot temperature.toInt hours.toNat (dropQuery s.heardD)
    have htiles : ∀ j, (storeReading q.slot temperature.toInt hours.toNat (dropQuery s.heardD)).tile j = s.tile j :=
      State.tile_of_tiles (hstore .tiles (by simp))
    rw [htile0] at hreading hkeep hre
    rw [hdrift0] at hreading happlied hkeep
    simp only [hdrift0] at hother
    generalize storeReading q.slot temperature.toInt hours.toNat (dropQuery s.heardD) = v at *
    obtain ⟨hchoose, hbegins, htouch, hall, honly, htagged⟩ :=
      senseReply_after hq hsv hraised (by rw [hquery]) (by rw [hquery])
    rw [hquery] at hchoose
    generalize chooseAndBegin v = t at *
    have htile : ∀ j, t.tile j = s.tile j := fun j => (State.tile_of_tiles (htouch .tiles (by simp)) j).trans (htiles j)
    have hdrift : t.drift = v.drift := htouch .drift (by simp)
    have hcauses : t.causes = v.causes := htouch .causes (by simp)
    refine ⟨fun j hj => ⟨htile j, by rw [hdrift]; exact hother j hj⟩, hall, honly, hbegins, htagged,
      by rw [if_pos hshort]; exact hchoose, fun _ => ?_, fun h => absurd hshort h⟩
    rw [hdrift, hcauses]
    refine ⟨htile _, ?_, hmiss, happlied, hrange, fun hp => hkeep (by rw [hp]; rfl), fun hp => ?_⟩
    · rw [hreading, hf, Option.some.injEq, Reading.mk.injEq]
      exact ⟨rfl, congrArg _ (currentHours_of_facts _ f), rfl⟩
    · exact retargeted_of_touches htouch (hre (by rcases hp with hp | hp <;> rw [hp] <;> rfl))
  · rw [acceptReading_of_other hfacts hshort]
    have hlose := touches_loseTile_self q.slot (dropQuery s.heardD)
    have hsv : Touches [.tiles, .query, .drift, .causes] s.heardD (loseTile q.slot (dropQuery s.heardD)) := by
      simp [dropQuery]
    have hraised : Raised [.driftRange, .tileLost] s.causes (loseTile q.slot (dropQuery s.heardD)).causes :=
      raised_loseTile _ .refl (by simp)
    have hquery : (loseTile q.slot (dropQuery s.heardD)).query = { s.query with
        outstanding := none
        senseList := s.query.senseList.filter fun j => decide (j ≠ q.slot) } := by
      rw [loseTile_query, loseIdentity_query]
      rfl
    have htiles := fun j => loseTile_tile q.slot (dropQuery s.heardD) j
    have hlost := loseTile_pending q.slot (dropQuery s.heardD)
    have hkept : (loseTile q.slot (dropQuery s.heardD)).drift = s.drift := hlose .drift (by simp)
    generalize loseTile q.slot (dropQuery s.heardD) = v at *
    obtain ⟨hchoose, hbegins, htouch, hall, honly, htagged⟩ :=
      senseReply_after hq hsv hraised (by rw [hquery]) (by rw [hquery])
    rw [hquery] at hchoose
    generalize chooseAndBegin v = t at *
    have htile : ∀ j, t.tile j = if q.slot = j then ⟨.absent, none, some (.instant s.clock)⟩ else s.tile j := fun j =>
      (State.tile_of_tiles (htouch .tiles (by simp)) j).trans (htiles j)
    have hdrift : t.drift = s.drift := (htouch .drift (by simp)).trans hkept
    refine ⟨fun j hj => ⟨(htile j).trans (if_neg (Ne.symm hj)), by rw [hdrift]⟩, hall, honly, hbegins, htagged,
      by rw [if_neg hshort]; exact hchoose, fun h => absurd h hshort, fun _ => ⟨(htile _).trans (if_pos rfl), by rw [hdrift], ?_⟩⟩
    rw [show t.causes = v.causes from htouch .causes (by simp)]
    exact hlost

end Sys2Proof.Machine
end

section
/-! PROOFS. WRITE-PLAN: what an entry is decoded to, and the checks in their order (R22, R25, R26): O33. -/

namespace Sys2Proof.Machine

variable {s t u v : State}

/-! ## Fields of a plan entry -/

theorem flagByte_of_flagOf {b : Byte} {x : Bool} (h : flagOf b = some x) : flagByte x = b := by
  unfold flagOf at h
  split at h
  · next hb => rw [hb, ← Option.some.inj h]; rfl
  · split at h
    · next hb => rw [hb, ← Option.some.inj h]; rfl
    · exact nomatch h

theorem byte_eq_ofNat {b : Byte} {n : Nat} (h : b.toNat = n) : b = BitVec.ofNat 8 n := by
  rw [← h, BitVec.ofNat_toNat, BitVec.setWidth_eq]

theorem flagOf_isSome (b : Byte) : (flagOf b).isSome = true ↔ b.toNat ≤ 1 := by
  by_cases h : b.toNat ≤ 1
  · simp [flagOf_eq_some h, h]
  · simp [flagOf_eq_none (not_le.mp h), h]

theorem code_of_orientationOf {b : Byte} {o : Orientation} (h : orientationOf b = some o) : o.code = b := by
  unfold orientationOf at h
  split at h
  case h_5 => exact nomatch h
  all_goals
    next hb => rw [byte_eq_ofNat hb, ← Option.some.inj h]; rfl

theorem orientationOf_isSome (b : Byte) : (orientationOf b).isSome = true ↔ b.toNat ≤ 3 := by
  unfold orientationOf
  split
  case h_5 h0 h1 h2 h3 =>
    have hn : ¬ b.toNat = 0 ∧ ¬ b.toNat = 1 ∧ ¬ b.toNat = 2 ∧ ¬ b.toNat = 3 := ⟨h0, h1, h2, h3⟩
    simp only [Option.isSome_none, Bool.false_eq_true, false_iff]
    omega
  all_goals
    next h => simp [h]

theorem byte1_of_slotOf {b : Byte} {k : SlotId} (h : slotOf b = some k) : byte1 k.val = b := by
  by_cases hb : b.toNat < 16
  · obtain rfl := Option.some.inj ((slotOf_eq_some hb).symm.trans h)
    exact (byte_eq_ofNat rfl).symm
  · exact nomatch (slotOf_eq_none (by omega)).symm.trans h

theorem slotOf_isSome (b : Byte) : (slotOf b).isSome = true ↔ b.toNat ≤ 15 := by
  by_cases h : b.toNat < 16
  · simp only [slotOf_eq_some h, Option.isSome_some, true_iff]
    omega
  · simp only [slotOf_eq_none (by omega : 15 < b.toNat), Option.isSome_none, Bool.false_eq_true, false_iff]
    omega

theorem colourWords_of_colourOf {c : Rgb W16} {x : Rgb Nat} (h : colourOf c = some x) : colourWords x = c := by
  unfold colourOf at h
  split at h
  · rw [← Option.some.inj h]
    simp [colourWords, Rgb.map]
  · exact nomatch h

theorem colourOf_isSome (c : Rgb W16) :
    (colourOf c).isSome = true ↔ c.r.toNat ≤ 4095 ∧ c.g.toNat ≤ 4095 ∧ c.b.toNat ≤ 4095 := by
  unfold colourOf
  split <;> simp_all [and_assoc]

theorem sizeOk_iff (n : Nat) : sizeOk n = true ↔ 16 ≤ n ∧ n ≤ 256 ∧ n % 8 = 0 := by
  simp [sizeOk, and_assoc]

/-! ## The entry decoded -/

/-- R22: what check 2 asks of a CANVAS entry beyond its flags and orientation. -/
def canvasFieldsOk (e : RawPlan) : Bool :=
  decide (e.line.toNat ≤ 4095) && decide (e.column.toNat ≤ 4095) && sizeOk e.width.toNat && sizeOk e.height.toNat

/-- `decodePlan` by the source kind. -/
theorem decodePlan_kind (e : RawPlan) :
    (e.kind.toNat = 0 → decodePlan e = some .none) ∧
    (e.kind.toNat = 1 → decodePlan e = (flagOf e.dark).bind fun dark => (flagOf e.mirror).bind fun mirror =>
      (orientationOf e.orientation).bind fun orientation => if canvasFieldsOk e then
        some (.canvas ⟨dark, e.line.toNat, e.column.toNat, e.width.toNat, e.height.toNat, orientation, mirror⟩) else none) ∧
    (e.kind.toNat = 2 → decodePlan e = (flagOf e.dark).bind fun dark => (slotOf e.target).bind fun target =>
      some (.mirror dark target)) ∧
    (e.kind.toNat = 3 → decodePlan e = (flagOf e.dark).bind fun dark => (colourOf e.colour).bind fun colour =>
      some (.flat dark colour)) ∧
    (e.kind.toNat = 4 → decodePlan e = (flagOf e.dark).bind fun dark => (colourOf e.colour).bind fun colour =>
      if decide (8 ≤ e.pitch.toNat) && decide (e.pitch.toNat ≤ 64) then some (.grid dark colour e.pitch.toNat) else none) ∧
    (5 ≤ e.kind.toNat → decodePlan e = none) := by
  unfold decodePlan
  refine ⟨fun h => ?_, fun h => ?_, fun h => ?_, fun h => ?_, fun h => ?_, fun h => ?_⟩
  case refine_6 =>
    split
    case h_6 => rfl
    all_goals omega
  all_goals rw [h] <;> rfl

theorem kind_cases (e : RawPlan) : e.kind.toNat = 0 ∨ e.kind.toNat = 1 ∨ e.kind.toNat = 2 ∨ e.kind.toNat = 3 ∨
    e.kind.toNat = 4 ∨ 5 ≤ e.kind.toNat := by omega

/-- A two-step decoding succeeds when each step does. -/
theorem bind_bind_isSome {α β γ : Type} (x : Option α) (y : Option β) (f : α → β → Option γ) {P : Prop}
    (hf : ∀ a b, (f a b).isSome = true ↔ P) :
    (x.bind fun a => y.bind fun b => f a b).isSome = true ↔ x.isSome = true ∧ y.isSome = true ∧ P := by
  cases x <;> cases y <;> simp [hf]

theorem eq_ofNat_iff {b : Byte} {n : Nat} (hn : n < 256) : b = BitVec.ofNat 8 n ↔ b.toNat = n :=
  ⟨fun h => h ▸ toNat_ofNat_of_lt hn, byte_eq_ofNat⟩

/-- R22: `entryInRange` by the source kind. -/
theorem entryInRange_iff (e : RawPlan) : entryInRange e ↔ e.kind.toNat = 0 ∨ e.dark.toNat ≤ 1 ∧
    (e.kind.toNat = 1 ∧ e.mirror.toNat ≤ 1 ∧ e.orientation.toNat ≤ 3 ∧ canvasFieldsOk e = true ∨
      e.kind.toNat = 2 ∧ e.target.toNat ≤ 15 ∨
      e.kind.toNat = 3 ∧ e.colour.r.toNat ≤ 4095 ∧ e.colour.g.toNat ≤ 4095 ∧ e.colour.b.toNat ≤ 4095 ∨
      e.kind.toNat = 4 ∧ (e.colour.r.toNat ≤ 4095 ∧ e.colour.g.toNat ≤ 4095 ∧ e.colour.b.toNat ≤ 4095) ∧
        8 ≤ e.pitch.toNat ∧ e.pitch.toNat ≤ 64) := by
  have hkind : ∀ n, n < 256 → (e.kind = BitVec.ofNat 8 n ↔ e.kind.toNat = n) := fun n hn => eq_ofNat_iff hn
  have hcanvas : canvasFieldsOk e = true ↔ e.line.toNat ≤ 4095 ∧ e.column.toNat ≤ 4095 ∧
      (16 ≤ e.width.toNat ∧ e.width.toNat ≤ 256 ∧ e.width.toNat % 8 = 0) ∧
      (16 ≤ e.height.toNat ∧ e.height.toNat ≤ 256 ∧ e.height.toNat % 8 = 0) := by
    simp only [canvasFieldsOk, Bool.and_eq_true, decide_eq_true_eq, sizeOk_iff, and_assoc]
  have h0 : e.kind = 0 ↔ e.kind.toNat = 0 := hkind 0 (by decide)
  have h1 : e.kind = 1 ↔ e.kind.toNat = 1 := hkind 1 (by decide)
  have h2 : e.kind = 2 ↔ e.kind.toNat = 2 := hkind 2 (by decide)
  have h3 : e.kind = 3 ↔ e.kind.toNat = 3 := hkind 3 (by decide)
  have h4 : e.kind = 4 ↔ e.kind.toNat = 4 := hkind 4 (by decide)
  unfold entryInRange
  simp only [h0, h1, h2, h3, h4]
  refine or_congr Iff.rfl (and_congr Iff.rfl (or_congr (and_congr Iff.rfl ?_) Iff.rfl))
  rw [hcanvas]
  exact ⟨fun ⟨hl, hc, hw, hh, ho, hm⟩ => ⟨hm, ho, hl, hc, hw, hh⟩, fun ⟨hm, ho, hl, hc, hw, hh⟩ => ⟨hl, hc, hw, hh, ho, hm⟩⟩

/-- R22, R25: check 2 passes exactly the entries in range. -/
theorem decodePlan_isSome (e : RawPlan) : (decodePlan e).isSome = true ↔ entryInRange e := by
  obtain ⟨h0, h1, h2, h3, h4, h5⟩ := decodePlan_kind e
  rw [entryInRange_iff]
  rcases kind_cases e with hk | hk | hk | hk | hk | hk
  · simp [h0 hk, hk]
  · rw [h1 hk, bind_bind_isSome _ _ _ (P := e.orientation.toNat ≤ 3 ∧ canvasFieldsOk e = true), flagOf_isSome, flagOf_isSome]
    · simp [hk]
    · intro dark mirror
      rw [← orientationOf_isSome]
      cases orientationOf e.orientation <;> simp
  · rw [h2 hk, bind_bind_isSome _ _ _ (P := True) (fun _ _ => by simp), flagOf_isSome, slotOf_isSome]
    simp [hk]
  · rw [h3 hk, bind_bind_isSome _ _ _ (P := True) (fun _ _ => by simp), flagOf_isSome, colourOf_isSome]
    simp [hk]
  · rw [h4 hk, bind_bind_isSome _ _ _ (P := 8 ≤ e.pitch.toNat ∧ e.pitch.toNat ≤ 64), flagOf_isSome, colourOf_isSome]
    · simp [hk]
    · intro dark colour
      simp
  · rw [h5 hk]
    simp only [Option.isSome_none, Bool.false_eq_true, false_iff]
    omega

/-- R22, R28: the entry a plan that was decoded reads back as. -/
theorem raw_of_decodePlan {e : RawPlan} {p : Plan} (h : decodePlan e = some p) : p.raw = entryAsStored e := by
  have hword : ∀ w : W16, BitVec.ofNat 16 w.toNat = w := fun w => by rw [BitVec.ofNat_toNat, BitVec.setWidth_eq]
  obtain ⟨h0, h1, h2, h3, h4, h5⟩ := decodePlan_kind e
  unfold entryAsStored
  rcases kind_cases e with hk | hk | hk | hk | hk | hk
  · obtain rfl := Option.some.inj ((h0 hk).symm.trans h)
    rw [hk] <;> rfl
  · rw [h1 hk] at h
    simp only [Option.bind_eq_some_iff, Option.ite_none_right_eq_some, Option.some.injEq] at h
    obtain ⟨dark, hdark, mirror, hmirror, orientation, horientation, -, rfl⟩ := h
    rw [hk]
    simp only [Plan.raw, flagByte_of_flagOf hdark, flagByte_of_flagOf hmirror, code_of_orientationOf horientation, hword,
      byte_eq_ofNat hk] <;> rfl
  · rw [h2 hk] at h
    simp only [Option.bind_eq_some_iff, Option.some.injEq] at h
    obtain ⟨dark, hdark, target, htarget, rfl⟩ := h
    rw [hk]
    simp only [Plan.raw, flagByte_of_flagOf hdark, byte1_of_slotOf htarget] <;> rfl
  · rw [h3 hk] at h
    simp only [Option.bind_eq_some_iff, Option.some.injEq] at h
    obtain ⟨dark, hdark, colour, hcolour, rfl⟩ := h
    rw [hk]
    simp only [Plan.raw, flagByte_of_flagOf hdark, colourWords_of_colourOf hcolour] <;> rfl
  · rw [h4 hk] at h
    simp only [Option.bind_eq_some_iff, Option.ite_none_right_eq_some, Option.some.injEq] at h
    obtain ⟨dark, hdark, colour, hcolour, -, rfl⟩ := h
    rw [hk]
    have hpitch : byte1 e.pitch.toNat = e.pitch := (byte_eq_ofNat rfl).symm
    simp only [Plan.raw, flagByte_of_flagOf hdark, colourWords_of_colourOf hcolour, hpitch] <;> rfl
  · exact nomatch (h5 hk).symm.trans h

/-! ## The checks -/

theorem exec_writePlan {p : Up} {tag : W16} {slot : Byte} {e : RawPlan} {a : Answer} (hs : s.serves p) (he : s.mayEdit p)
    (hb : writePlanBody slot e (s.heard p) = (t, a)) : exec (.writePlan p tag slot e) s =
      .next (t.replied p tag 0x04 a.outcome a.data) :=
  exec_edit (body := writePlanBody slot e) rfl hs he hb

theorem writePlanBody_of_undecoded {slot : Byte} {e : RawPlan} (h : slot.toNat < 16) (he : decodePlan e = none) (s : State) :
    writePlanBody slot e s = (s, .refuse .badValue) := by
  rw [writePlanBody, slotOf_eq_some h]
  dsimp only
  rw [he]

theorem writePlanBody_of_refused {slot : Byte} {e : RawPlan} {new : Plan} {o : ReqOutcome} (h : slot.toNat < 16)
    (he : decodePlan e = some new) (ho : planRefusal s.plans ⟨slot.toNat, h⟩ new = some o) :
    writePlanBody slot e s = (s, .refuse o) := by
  rw [writePlanBody, slotOf_eq_some h]
  dsimp only
  rw [he]
  dsimp only
  rw [ho]

theorem writePlanBody_of_accepted {slot : Byte} {e : RawPlan} {new : Plan} (h : slot.toNat < 16)
    (he : decodePlan e = some new) (ho : planRefusal s.plans ⟨slot.toNat, h⟩ new = none) :
    writePlanBody slot e s = (acceptPlan ⟨slot.toNat, h⟩ new s, .ok (slot :: new.bytes)) := by
  rw [writePlanBody, slotOf_eq_some h]
  dsimp only
  rw [he]
  dsimp only
  rw [ho]

section
variable {plans : Table Plan 16} {k : SlotId}

theorem planRefusal_of_offCanvas {p : Plan} (h : onCanvas p = false) : planRefusal plans k p = some .badValue := by
  rw [planRefusal, h]
  rfl

theorem planRefusal_of_target {p : Plan} (h : targetOk plans k p = false) : planRefusal plans k p = some .badValue := by
  rw [planRefusal, h]
  exact ite_self _

theorem planRefusal_of_overlap {p : Plan} (hc : onCanvas p = true) (ht : targetOk plans k p = true)
    (h : overlapsOthers plans k p = true) : planRefusal plans k p = some .overlap := by
  rw [planRefusal, hc, ht, h]
  rfl

theorem planRefusal_of_full {p : Plan} (hc : onCanvas p = true) (ht : targetOk plans k p = true)
    (hover : overlapsOthers plans k p = false) (hp : p.isCanvas = true) (h : 262144 < totalArea (plans.set k p)) :
    planRefusal plans k p = some .full := by
  rw [planRefusal, hc, ht, hover, hp]
  simp only [Bool.not_true, Bool.false_eq_true, if_false, Bool.true_and]
  exact if_pos (decide_eq_true h)

/-- R33: a canvas pixel has a native pixel exactly inside the footprint. -/
theorem native_isSome_iff (c : CanvasPlan) (line column : Nat) : (c.native line column).isSome = true ↔
    c.line ≤ line ∧ line < c.line + c.height ∧ c.column ≤ column ∧ column < c.column + c.width := by
  rw [Option.isSome_iff_exists]
  exact ⟨fun ⟨xy, h⟩ => (native_eq_some_iff.mp h).1, fun h => ⟨_, native_eq_some_iff.mpr ⟨h, rfl⟩⟩⟩

/-- R26: footprints overlap when they share a canvas pixel. -/
theorem overlaps_of_shared {a c : CanvasPlan} {line column : Nat} (ha : (a.native line column).isSome = true)
    (hc : (c.native line column).isSome = true) : (Plan.canvas c).overlaps (.canvas a) = true := by
  rw [native_isSome_iff] at ha hc
  simp only [Plan.overlaps, rangesMeet, Bool.and_eq_true, decide_eq_true_eq]
  omega

/-- R26: footprints that overlap share a canvas pixel, neither being empty. -/
theorem shared_of_overlaps {a c : CanvasPlan} (ha : 0 < a.width ∧ 0 < a.height) (hc : 0 < c.width ∧ 0 < c.height)
    (h : (Plan.canvas c).overlaps (.canvas a) = true) :
    (a.native (max a.line c.line) (max a.column c.column)).isSome = true ∧
    (c.native (max a.line c.line) (max a.column c.column)).isSome = true := by
  simp only [Plan.overlaps, rangesMeet, Bool.and_eq_true, decide_eq_true_eq] at h
  rw [native_isSome_iff, native_isSome_iff]
  omega

theorem overlapsOthers_of_shared {c a : CanvasPlan} {j : SlotId} (hne : j ≠ k) (hj : plans.get j = .canvas a)
    {line column : Nat} (ha : (a.native line column).isSome = true) (hc : (c.native line column).isSome = true) :
    overlapsOthers plans k (.canvas c) = true :=
  List.any_eq_true.mpr ⟨j, mem_allSlots j, by rw [hj, overlaps_of_shared ha hc, decide_eq_true hne]; rfl⟩

theorem overlapsOthers_eq_false_of_disjoint {c : CanvasPlan} (hc : 0 < c.width ∧ 0 < c.height)
    (hsize : ∀ j a, plans.get j = .canvas a → 0 < a.width ∧ 0 < a.height)
    (h : ∀ j a, j ≠ k → plans.get j = .canvas a →
      ∀ l m, (a.native l m).isSome = true → (c.native l m).isSome = false) :
    overlapsOthers plans k (.canvas c) = false := by
  rw [overlapsOthers_eq_false_iff]
  intro j hj
  cases hp : plans.get j with
  | canvas a =>
    rw [Bool.eq_false_iff]
    intro hover
    obtain ⟨ha, hcn⟩ := shared_of_overlaps (hsize j a hp) hc hover
    rw [h j a hj hp _ _ ha] at hcn
    exact nomatch hcn
  | _ => rfl

end

/-- Settles O33. -/
theorem writePlanChecksInOrder : Obligations.WritePlanChecksInOrder := by
  unfold Obligations.WritePlanChecksInOrder
  intro p tag slot e s hs he
  have hplans : (s.heard p).plans = s.plans := by simp
  have hrefused : ∀ (h : slot.toNat < 16) {new : Plan} {o : ReqOutcome}, decodePlan e = some new →
      planRefusal s.plans ⟨slot.toNat, h⟩ new = some o →
      exec (.writePlan p tag slot e) s = .next ((s.heard p).replied p tag 0x04 o []) := fun h _ o hd ho =>
    exec_writePlan (a := .refuse o) hs he (writePlanBody_of_refused h hd (by rw [hplans]; exact ho))
  refine ⟨fun h => ?_, fun h => ?_⟩
  · exact exec_writePlan (a := .refuse .badIndex) hs he (by rw [writePlanBody, slotOf_eq_none h])
  have hnone : decodePlan e = none ↔ ¬ entryInRange e := by
    rw [← decodePlan_isSome, Bool.not_eq_true, Option.isSome_eq_false_iff, Option.isNone_iff_eq_none]
  refine ⟨fun hr => exec_writePlan (a := .refuse .badValue) hs he (writePlanBody_of_undecoded h (hnone.mpr hr) _), hnone,
    fun new hd => raw_of_decodePlan hd, fun c hd => ⟨fun hoff => ?_, fun hline hcolumn => ?_⟩, fun dark target hd ht => ?_⟩
  · refine hrefused h hd (planRefusal_of_offCanvas ?_)
    simp only [onCanvas, Bool.and_eq_false_iff, decide_eq_false_iff_not]
    show ¬ c.line + c.height ≤ 4096 ∨ ¬ c.column + c.width ≤ 4096
    omega
  · have hon : onCanvas (.canvas c) = true := by
      simp only [onCanvas, Bool.and_eq_true, decide_eq_true_eq]
      exact ⟨hline, hcolumn⟩
    refine ⟨fun ⟨j, a, hne, hj, l, m, ha, hc⟩ => ?_, fun hlaw hdisjoint hfull => ?_⟩
    · exact hrefused h hd (planRefusal_of_overlap hon rfl (overlapsOthers_of_shared hne hj ha hc))
    · obtain ⟨hw, -, hh, -⟩ := size_of_decodePlan hd
      refine hrefused h hd (planRefusal_of_full hon rfl (overlapsOthers_eq_false_of_disjoint ⟨by omega, by omega⟩
        (fun j a hj => ?_) hdisjoint) rfl hfull)
      obtain ⟨haw, -, hah, -⟩ := hlaw.2 j a hj
      exact ⟨by omega, by omega⟩
  · refine hrefused h hd (planRefusal_of_target ?_)
    simp only [targetOk, Bool.and_eq_false_iff, decide_eq_false_iff_not, not_not]
    exact ht

end Sys2Proof.Machine
end

section
/-! PROOFS. An accepted WRITE-PLAN (R28 to R31, R67, R141): O34. First what a move between identified states does. -/

namespace Sys2Proof.Machine

variable {s t u v : State}

/-! ## A move between identified states -/

/-- The state of a slot that moves, its cause raised, before its targets are computed. -/
def moved (k : SlotId) (p : Presence) (s : State) : State := raiseEntered p k (s.withTile k { s.tile k with presence := p })

theorem movePresence_eq (k : SlotId) (p : Presence) (s : State) : movePresence k p s = computeTargets k (moved k p s) := rfl

theorem touches_moved (k : SlotId) (p : Presence) (s : State) : Touches [.tiles, .causes] s (moved k p s) :=
  touches_raiseEntered p k (touches_withTile k _ (.refl _ s) (by simp)) (by simp)

theorem movePresence_tile (k j : SlotId) (p : Presence) (s : State) :
    (movePresence k p s).tile j = if k = j then { s.tile k with presence := p } else s.tile j := by
  rw [State.tile, movePresence_tiles, Table.get_set]
  rfl

theorem movePresence_drift_other {k j : SlotId} (h : j ≠ k) (p : Presence) (s : State) :
    (movePresence k p s).drift.get j = s.drift.get j := by
  rw [movePresence_eq, computeTargets_drift_other h, show (moved k p s).drift = s.drift from touches_moved k p s .drift (by simp)]

/-- R30, R76, R141: what a move into a state does to the slot's drift record and the causes. -/
theorem movePresence_entered (k : SlotId) (p : Presence) (s : State) :
    (p.isSent = false → (movePresence k p s).drift.get k = s.drift.get k) ∧
    (p.isSent = true → retargeted k (s.drift.get k) (movePresence k p s)) ∧
    (p = .misfit → ((movePresence k p s).causes.get Cause.misfit.number).pending = true) ∧
    (p = .unknown → ((movePresence k p s).causes.get Cause.unknownTile.number).pending = true) := by
  have htile : ((moved k p s).tile k).presence = p := by
    have htiles : (moved k p s).tiles = (movePresence k p s).tiles := (computeTargets_tiles k _).symm
    rw [State.tile, htiles, movePresence_tiles, Table.get_set_self]
  have hdrift : (moved k p s).drift = s.drift := touches_moved k p s .drift (by simp)
  have hraised : Raised [.driftRange] (moved k p s).causes (movePresence k p s).causes :=
    raised_computeTargets k .refl (by simp)
  obtain ⟨hmisfit, hunknown⟩ := raiseEntered_pending (p := p) k (s.withTile k { s.tile k with presence := p })
  refine ⟨fun hp => ?_, fun hp => ?_, fun hp => hraised.pending (hmisfit hp), fun hp => hraised.pending (hunknown hp)⟩
  · rw [movePresence_eq, computeTargets_of_not_sent (by rw [htile, hp]), hdrift]
  · have hre := retargeted_computeTargets (s := moved k p s) (k := k) (by rw [htile, hp])
    rw [hdrift] at hre
    exact hre

theorem reevaluate_of_facts {k : SlotId} {f : TileFacts} (hf : (s.tile k).facts = some f) : reevaluate k s =
    if testedAs (s.plans.get k) s.records f = (s.tile k).presence then s
    else movePresence k (testedAs (s.plans.get k) s.records f) s := by
  rw [reevaluate, hf, ← identifyAs_eq]

/-! ## The presence after an accepted write -/

section
variable {k : SlotId} {p : Plan}

theorem planPresence_of_none (h : (s.tile k).presence ≠ .empty) : planPresence k .none s = becomeEmpty k s := by
  unfold planPresence
  cases hp : (s.tile k).presence with
  | empty => exact absurd hp h
  | _ => rfl

theorem planPresence_of_none_empty (h : (s.tile k).presence = .empty) : planPresence k .none s = s := by
  rw [planPresence, h]
  rfl

theorem planPresence_of_empty (hp : p ≠ .none) (h : (s.tile k).presence = .empty) : planPresence k p s = becomeAbsent k s := by
  rw [planPresence, h]
  exact if_neg hp

theorem planPresence_of_absent (hp : p ≠ .none) (h : (s.tile k).presence = .absent) : planPresence k p s = s := by
  rw [planPresence, h]
  exact if_neg hp

theorem planPresence_of_identified (hp : p ≠ .none) (h : (s.tile k).presence.identified = true) :
    planPresence k p s = reevaluate k s := by
  unfold planPresence
  cases hq : (s.tile k).presence <;> simp only [hq, Presence.identified, Bool.false_eq_true] at h
  all_goals exact if_neg hp

theorem touches_planPresence_self (k : SlotId) (p : Plan) (s : State) :
    Touches [.tiles, .query, .drift, .causes] s (planPresence k p s) := touches_planPresence k p (.refl _ s) (by simp)

theorem planPresence_tile_other {j : SlotId} (h : j ≠ k) (p : Plan) (s : State) :
    (planPresence k p s).tile j = s.tile j ∧ (planPresence k p s).drift.get j = s.drift.get j := by
  have hempty : (becomeEmpty k s).tile j = s.tile j ∧ (becomeEmpty k s).drift.get j = s.drift.get j := by
    refine ⟨?_, by rw [show (becomeEmpty k s).drift = s.drift from touches_becomeEmpty k (.refl [.tiles, .query] s) (by simp) .drift (by simp)]⟩
    rw [State.tile, becomeEmpty_tiles, Table.get_set_of_ne _ _ (Ne.symm h)]
    rfl
  by_cases hp : p = .none
  · subst hp
    by_cases he : (s.tile k).presence = .empty
    · rw [planPresence_of_none_empty he]
      exact ⟨rfl, rfl⟩
    · rw [planPresence_of_none he]
      exact hempty
  · cases hq : (s.tile k).presence
    case empty =>
      rw [planPresence_of_empty hp hq]
      exact ⟨(State.tile_withTile ..).trans (if_neg (Ne.symm h)), by simp [becomeAbsent, State.withTile]⟩
    case absent =>
      rw [planPresence_of_absent hp hq]
      exact ⟨rfl, rfl⟩
    all_goals
      rw [planPresence_of_identified hp (by rw [hq]; rfl)]
      unfold reevaluate
      split
      · dsimp only
        split
        · exact ⟨rfl, rfl⟩
        · exact ⟨(movePresence_tile ..).trans (if_neg (Ne.symm h)), movePresence_drift_other h _ s⟩
      · exact ⟨rfl, rfl⟩

theorem planPresence_query_of_ne_none (hp : p ≠ .none) : (planPresence k p s).query = s.query := by
  cases hq : (s.tile k).presence
  case empty => rw [planPresence_of_empty hp hq]; simp [becomeAbsent, State.withTile]
  case absent => rw [planPresence_of_absent hp hq]
  all_goals
    rw [planPresence_of_identified hp (by rw [hq]; rfl)]
    exact touches_reevaluate k (.refl [.tiles, .drift, .causes] s) (by simp) .query (by simp)

/-! ## MISFIT of the mirrors -/

/-- R31: a slot that mirrors slot `k` raises MISFIT. -/
theorem raiseMirrors_pending {j : SlotId} {dark : Bool} (hj : s.plans.get j = .mirror dark k) :
    ((raiseMirrors k s).causes.get Cause.misfit.number).pending = true := by
  refine forSlots_each (Pre := fun _ u => u.plans = s.plans)
    (Post := fun i u => i = j → (u.causes.get Cause.misfit.number).pending = true) ?_ ?_ ?_ (fun _ => rfl) j rfl
  · rintro i u hplans rfl
    rw [hplans, hj]
    dsimp only
    rw [if_pos rfl]
    exact raise_pending _ _ _
  · intro i i' u _ hplans
    rw [hplans]
    split
    · split
      · simpa [raise] using hplans
      · exact hplans
    · exact hplans
  · intro i i' u _ hpost hi
    have hraised : ∀ w : State, w = u ∨ w = raise .misfit (some i) u →
        (w.causes.get Cause.misfit.number).pending = true := by
      rintro w (rfl | rfl)
      · exact hpost hi
      · exact raise_pending _ _ _
    split
    · split
      · exact hraised _ (.inr rfl)
      · exact hraised _ (.inl rfl)
    · exact hraised _ (.inl rfl)

end

/-! ## The state an accepted write leaves to the choice -/

/-- The state after R28 to R31, before the next query is chosen. -/
def written (k : SlotId) (p : Plan) (s : State) : State :=
  if (s.plans.get k).isCanvas && !p.isCanvas then raiseMirrors k (planPresence k p (storePlan k p s))
  else planPresence k p (storePlan k p s)

section
variable {k : SlotId} {p : Plan}

theorem acceptPlan_of_eq (h : s.plans.get k = p) : acceptPlan k p s = s := if_pos h

theorem acceptPlan_of_ne (h : s.plans.get k ≠ p) : acceptPlan k p s = chooseAndBegin (written k p s) := if_neg h

theorem touches_storePlan_self (k : SlotId) (p : Plan) (s : State) : Touches [.plans, .shown, .incoming] s (storePlan k p s) :=
  touches_storePlan k p (.refl _ s) (by simp)

/-- The mirrors' MISFIT changes the causes alone. -/
theorem touches_written_planPresence (k : SlotId) (p : Plan) (s : State) :
    Touches [.causes] (planPresence k p (storePlan k p s)) (written k p s) := by
  unfold written
  split
  · exact touches_raiseMirrors k (.refl _ _) (by simp)
  · exact .refl _ _

theorem raised_written_planPresence (k : SlotId) (p : Plan) (s : State) :
    Raised [.misfit] (planPresence k p (storePlan k p s)).causes (written k p s).causes := by
  unfold written
  split
  · exact raised_raiseMirrors k .refl (by simp)
  · exact .refl

theorem touches_written (k : SlotId) (p : Plan) (s : State) :
    Touches [.plans, .shown, .incoming, .tiles, .query, .drift, .causes] s (written k p s) :=
  (((touches_storePlan_self k p s).mono (by simp)).then (touches_planPresence_self k p _) (by simp)).then
    (touches_written_planPresence k p s) (by simp)

theorem storePlan_plans (k : SlotId) (p : Plan) (s : State) : (storePlan k p s).plans = s.plans.set k p := by
  unfold storePlan
  dsimp only
  split <;> simp [resetImages]

theorem written_plans (k : SlotId) (p : Plan) (s : State) : (written k p s).plans = s.plans.set k p :=
  (touches_written_planPresence k p s .plans (by simp)).trans (plans_writePlan k p s)

/-- R29: a change of geometry alone reaches the images, and those of the slot alone. -/
theorem storePlan_images (k : SlotId) (p : Plan) (s : State) :
    (geometryChanged (s.plans.get k) p = true →
      (storePlan k p s).shown = s.shown.set k [] ∧ (storePlan k p s).incoming = s.incoming.set k []) ∧
    (geometryChanged (s.plans.get k) p = false → (storePlan k p s).shown = s.shown ∧ (storePlan k p s).incoming = s.incoming) := by
  unfold storePlan
  dsimp only
  refine ⟨fun h => ?_, fun h => ?_⟩
  · rw [if_pos h]
    simp [resetImages]
  · rw [if_neg (by rw [h]; exact Bool.false_ne_true)]
    simp

theorem written_images (k : SlotId) (p : Plan) (s : State) :
    (written k p s).shown = (storePlan k p s).shown ∧ (written k p s).incoming = (storePlan k p s).incoming :=
  have htouch := (touches_planPresence_self k p (storePlan k p s)).mono (qs := [.tiles, .query, .drift, .causes]) (by simp)
    |>.then (touches_written_planPresence k p s) (by simp)
  ⟨htouch .shown (by simp), htouch .incoming (by simp)⟩

theorem written_tile (j : SlotId) : (written k p s).tile j = (planPresence k p (storePlan k p s)).tile j :=
  State.tile_of_tiles (touches_written_planPresence k p s .tiles (by simp)) j

theorem storePlan_tile (j : SlotId) : (storePlan k p s).tile j = s.tile j :=
  State.tile_of_tiles (touches_storePlan_self k p s .tiles (by simp)) j

theorem written_drift : (written k p s).drift = (planPresence k p (storePlan k p s)).drift :=
  touches_written_planPresence k p s .drift (by simp)

theorem written_other {j : SlotId} (h : j ≠ k) :
    (written k p s).tile j = s.tile j ∧ (written k p s).drift.get j = s.drift.get j ∧
    (written k p s).shown.get j = s.shown.get j ∧ (written k p s).incoming.get j = s.incoming.get j := by
  obtain ⟨htile, hdrift⟩ := planPresence_tile_other h p (storePlan k p s)
  obtain ⟨hshown, hincoming⟩ := written_images k p s
  obtain ⟨hchanged, hsame⟩ := storePlan_images k p s
  rw [written_tile, htile, storePlan_tile, written_drift, hdrift,
    show (storePlan k p s).drift = s.drift from touches_storePlan_self k p s .drift (by simp), hshown, hincoming]
  refine ⟨rfl, rfl, ?_⟩
  cases hg : geometryChanged (s.plans.get k) p with
  | true =>
    rw [(hchanged hg).1, (hchanged hg).2, Table.get_set_of_ne _ _ (Ne.symm h), Table.get_set_of_ne _ _ (Ne.symm h)]
    exact ⟨rfl, rfl⟩
  | false =>
    rw [(hsame hg).1, (hsame hg).2]
    exact ⟨rfl, rfl⟩

/-- R30, R67: a slot written NONE. -/
theorem written_none (hne : (s.tile k).presence ≠ .empty) :
    (written k .none s).tile k = ⟨.empty, none, none⟩ ∧
    (written k .none s).query = { s.query with
      outstanding := s.query.outstanding.filter fun q => decide (q.slot ≠ k)
      senseList := s.query.senseList.filter fun j => decide (j ≠ k) } := by
  have hp := planPresence_of_none (s := storePlan k .none s) (k := k) (by rw [storePlan_tile]; exact hne)
  have hquery : (storePlan k .none s).query = s.query := touches_storePlan_self k _ s .query (by simp)
  rw [written_tile, show (written k .none s).query = _ from touches_written_planPresence k _ s .query (by simp), hp,
    becomeEmpty_query, hquery, State.tile, becomeEmpty_tiles, Table.get_set_self]
  exact ⟨rfl, rfl⟩

theorem written_none_empty (he : (s.tile k).presence = .empty) : (written k .none s).tile k = s.tile k := by
  rw [written_tile, planPresence_of_none_empty (by rw [storePlan_tile]; exact he), storePlan_tile]

/-- R30: an EMPTY slot written otherwise. -/
theorem written_empty (hp : p ≠ .none) (he : (s.tile k).presence = .empty) :
    (written k p s).tile k = ⟨.absent, none, some (.instant s.clock)⟩ := by
  rw [written_tile, planPresence_of_empty hp (by rw [storePlan_tile]; exact he), becomeAbsent, State.tile_withTile, if_pos rfl,
    show (storePlan k p s).clock = s.clock from touches_storePlan_self k p s .clock (by simp)]

theorem written_absent (hp : p ≠ .none) (ha : (s.tile k).presence = .absent) : (written k p s).tile k = s.tile k := by
  rw [written_tile, planPresence_of_absent hp (by rw [storePlan_tile]; exact ha), storePlan_tile]

theorem written_query (hp : p ≠ .none) : (written k p s).query = s.query :=
  (touches_written_planPresence k p s .query (by simp)).trans
    ((planPresence_query_of_ne_none hp).trans (touches_storePlan_self k p s .query (by simp)))

/-- R30, R77: an identified slot is judged again. -/
theorem written_identified {f : TileFacts} (hp : p ≠ .none) (hid : (s.tile k).presence.identified = true)
    (hf : (s.tile k).facts = some f) :
    (written k p s).tile k = { s.tile k with presence := testedAs p s.records f } ∧
    (testedAs p s.records f = (s.tile k).presence → (written k p s).drift.get k = s.drift.get k) ∧
    (testedAs p s.records f ≠ (s.tile k).presence →
      (testedAs p s.records f = .misfit → ((written k p s).causes.get Cause.misfit.number).pending = true ∧
        (written k p s).drift.get k = s.drift.get k) ∧
      (testedAs p s.records f = .unknown → ((written k p s).causes.get Cause.unknownTile.number).pending = true) ∧
      (testedAs p s.records f ≠ .misfit → retargeted k (s.drift.get k) (written k p s))) := by
  have hstore := touches_storePlan_self k p s
  have hraised := raised_written_planPresence k p s
  have htouch := touches_written_planPresence k p s
  have hpresence := planPresence_of_identified (s := storePlan k p s) (k := k) hp (by rw [storePlan_tile]; exact hid)
  rw [reevaluate_of_facts (by rw [storePlan_tile]; exact hf), storePlan_plans, Table.get_set_self,
    show (storePlan k p s).records = s.records from hstore .records (by simp), storePlan_tile] at hpresence
  have hdrift0 : (storePlan k p s).drift = s.drift := hstore .drift (by simp)
  have htile0 := storePlan_tile (k := k) (p := p) (s := s) k
  have hidentified := identifyAs_identified p s.records f
  rw [identifyAs_eq] at hidentified
  rw [written_tile, written_drift]
  generalize written k p s = w at *
  generalize storePlan k p s = v at *
  generalize testedAs p s.records f = q at *
  by_cases hq : q = (s.tile k).presence
  · rw [if_pos hq] at hpresence
    rw [hpresence, htile0, hdrift0]
    exact ⟨by rw [hq], fun _ => rfl, fun h => absurd hq h⟩
  · rw [if_neg hq] at hpresence
    rw [hpresence] at hraised htouch ⊢
    obtain ⟨hkept, hre, hmisfit, hunknown⟩ := movePresence_entered k q v
    rw [hdrift0] at hkept hre
    refine ⟨?_, fun h => absurd h hq, fun _ => ⟨fun h => ⟨hraised.pending (hmisfit h), hkept (by rw [h]; rfl)⟩,
      fun h => hraised.pending (hunknown h), fun h => ?_⟩⟩
    · rw [movePresence_tile, if_pos rfl, htile0]
    · refine retargeted_congr (State.tile_of_tiles (htouch .tiles (by simp)) k) (htouch .records (by simp))
        (htouch .settings (by simp)) (by rw [show w.drift = _ from htouch .drift (by simp)]) hraised.pending (hre ?_)
      cases q <;> simp_all [Presence.isSent, Presence.identified]

/-- R31: the mirrors of a slot that ceases to be CANVAS. -/
theorem written_mirrors {j : SlotId} {dark : Bool} (hold : (s.plans.get k).isCanvas = true) (hnew : p.isCanvas = false)
    (hj : s.plans.get j = .mirror dark k) (hne : j ≠ k) :
    ((written k p s).causes.get Cause.misfit.number).pending = true := by
  unfold written
  rw [if_pos (by rw [hold, hnew]; rfl)]
  exact raiseMirrors_pending (dark := dark) (by rw [plans_writePlan, Table.get_set_of_ne _ _ (Ne.symm hne), hj])

theorem raised_written (k : SlotId) (p : Plan) (s : State) :
    Raised [.misfit, .unknownTile, .driftRange] s.causes (written k p s).causes := by
  have hstore : (storePlan k p s).causes = s.causes := touches_storePlan_self k p s .causes (by simp)
  have hplan : Raised [.misfit, .unknownTile, .driftRange] (storePlan k p s).causes (planPresence k p (storePlan k p s)).causes :=
    raised_planPresence k p .refl (by simp) (by simp) (by simp)
  rw [hstore] at hplan
  exact hplan.trans ((raised_written_planPresence k p s).mono (by simp))

end

end Sys2Proof.Machine
end

section
/-! PROOFS. O34: an accepted WRITE-PLAN and its reply (R28 to R31, R63, R67). -/

namespace Sys2Proof.Machine

variable {s t u v : State}

/-- A reply does not reach what a choice has decided. -/
theorem choosesAfter_replied {q : QueryUnit} {p : Up} {tag : W16} {code : Byte} {o : ReqOutcome} {data : List Byte}
    (h : choosesAfter s q t) : choosesAfter s q (t.replied p tag code o data) := by
  have hreply := touches_replied_self p tag code o data t
  intro hw
  rw [show State.query (t.replied p tag code o data) = t.query from hreply .query (by simp)]
  refine choosesNext_congr (s := t.withQuery q) ?_ ?_ ?_ ?_ rfl (h hw)
  · exact congrArg ChainPort.aligned (hreply .d (by simp))
  · exact hreply .tiles (by simp)
  · exact hreply .clock (by simp)
  · exact hreply .settings (by simp)

theorem retargeted_replied {k : SlotId} {d : Drift} {p : Up} {tag : W16} {code : Byte} {o : ReqOutcome} {data : List Byte}
    (h : retargeted k d t) : retargeted k d (t.replied p tag code o data) := by
  have hreply := touches_replied_self p tag code o data t
  exact retargeted_congr (State.tile_of_tiles (hreply .tiles (by simp)) k) (hreply .records (by simp))
    (hreply .settings (by simp)) (congrArg (Table.get · k) (hreply .drift (by simp)))
    (fun hp => by rwa [show State.causes (t.replied p tag code o data) = t.causes from hreply .causes (by simp)]) h

theorem geometryChanged_self (p : Plan) : geometryChanged p p = false := by
  cases p <;> simp [geometryChanged]

/-- The reply to an accepted write. -/
theorem exec_writePlan_accepted {p : Up} {tag : W16} {slot : Byte} {e : RawPlan} {new : Plan} (h : slot.toNat < 16)
    (hs : s.serves p) (he : s.mayEdit p) (hd : decodePlan e = some new)
    (ho : planRefusal s.plans ⟨slot.toNat, h⟩ new = none) : exec (.writePlan p tag slot e) s =
      .next ((acceptPlan ⟨slot.toNat, h⟩ new (s.heard p)).replied p tag 0x04 .ok (slot :: new.bytes)) :=
  exec_writePlan (a := .ok (slot :: new.bytes)) hs he (writePlanBody_of_accepted h hd (by simpa using ho))

/-- Settles O34. -/
theorem acceptedPlanTakesEffect : Obligations.AcceptedPlanTakesEffect := by
  unfold Obligations.AcceptedPlanTakesEffect
  intro p tag slot e new h s hs he hd ho k
  have hexec := exec_writePlan_accepted (tag := tag) h hs he hd ho
  have hheard := touches_heard s p
  have hplans0 : (s.heard p).plans = s.plans := hheard .plans (by simp)
  by_cases hsame : s.plans.get k = new
  · rw [acceptPlan_of_eq (by rw [hplans0]; exact hsame)] at hexec
    have hreply := touches_replied_self p tag 0x04 .ok (slot :: new.bytes) (s.heard p)
    have hst : Touches [.up p] s ((s.heard p).replied p tag 0x04 .ok (slot :: new.bytes)) := hheard.then hreply (by simp)
    have hup := replied_up (.refl [] (s.heard p)) (List.not_mem_nil) tag 0x04 .ok (slot :: new.bytes)
    generalize (s.heard p).replied p tag 0x04 .ok (slot :: new.bytes) = t at *
    have hplans : t.plans = s.plans := hst .plans (by simp)
    have hcauses : t.causes = s.causes := hst .causes (by simp)
    refine ⟨t, hexec, by rw [hplans, ← hsame, Table.set_get_self], hup, fun _ => rfl, fun hg => ?_,
      fun _ => ⟨hst .shown (by simp), hst .incoming (by simp)⟩, fun hn => absurd hsame hn, fun hn => absurd hsame hn,
      fun _ _ => State.tile_of_tiles (hst .tiles (by simp)) k, fun hn => absurd hsame hn, fun hn => absurd hsame hn,
      fun _ hn => absurd hsame hn, fun j _ => ⟨State.tile_of_tiles (hst .tiles (by simp)) j, ?_, ?_, ?_⟩, fun hold hnew => ?_,
      hst.mono (by simp), Raised.raisesOnly (by rw [hcauses]; exact .refl),
      begins_of_same (hst .d (by simp)) (hst .engine (by simp))⟩
    · rw [hsame, geometryChanged_self] at hg
      exact nomatch hg
    · rw [show t.shown = s.shown from hst .shown (by simp)]
    · rw [show t.incoming = s.incoming from hst .incoming (by simp)]
    · rw [show t.drift = s.drift from hst .drift (by simp)]
    · rw [hsame, hnew] at hold
      exact nomatch hold
  · have hne : (s.heard p).plans.get k ≠ new := by rw [hplans0]; exact hsame
    rw [acceptPlan_of_ne hne] at hexec
    refine ⟨_, hexec, ?_⟩
    have htiles0 := State.tile_of_tiles (hheard .tiles (by simp))
    have hquery0 : (s.heard p).query = s.query := hheard .query (by simp)
    have hdrift0 : (s.heard p).drift = s.drift := hheard .drift (by simp)
    have hrecords0 : (s.heard p).records = s.records := hheard .records (by simp)
    have hclock0 : (s.heard p).clock = s.clock := hheard .clock (by simp)
    have hshown0 : (s.heard p).shown = s.shown := hheard .shown (by simp)
    have hincoming0 : (s.heard p).incoming = s.incoming := hheard .incoming (by simp)
    have hcauses0 : (s.heard p).causes = s.causes := hheard .causes (by simp)
    have htouch := touches_written k new (s.heard p)
    have hplans := written_plans k new (s.heard p)
    have himages := written_images k new (s.heard p)
    obtain ⟨hreset, hkeep⟩ := storePlan_images k new (s.heard p)
    have hother := fun j (hj : j ≠ k) => written_other (s := s.heard p) (p := new) hj
    have hnone : new = .none → ((s.heard p).tile k).presence ≠ .empty → (written k new (s.heard p)).tile k = ⟨.empty, none, none⟩ ∧
        (written k new (s.heard p)).query = { (s.heard p).query with
          outstanding := (s.heard p).query.outstanding.filter fun q => decide (q.slot ≠ k)
          senseList := (s.heard p).query.senseList.filter fun j => decide (j ≠ k) } := fun hn hp => by
      rw [hn]
      exact written_none hp
    have hnoneEmpty : new = .none → ((s.heard p).tile k).presence = .empty →
        (written k new (s.heard p)).tile k = (s.heard p).tile k := fun hn hp => by
      rw [hn]
      exact written_none_empty hp
    have hempty := fun hn hp => written_empty (s := s.heard p) (k := k) (p := new) hn hp
    have habsent := fun hn hp => written_absent (s := s.heard p) (k := k) (p := new) hn hp
    have hquery := fun hn => written_query (s := s.heard p) (k := k) (p := new) hn
    have hidentified := fun f hn hid hf => written_identified (s := s.heard p) (k := k) (p := new) (f := f) hn hid hf
    have hmirrors := fun j dark hold hnew hj hjk => written_mirrors (s := s.heard p) (k := k) (p := new) (j := j) (dark := dark) hold hnew hj hjk
    have hraised := raised_written k new (s.heard p)
    simp only [htiles0, hquery0, hdrift0, hrecords0, hclock0, hshown0, hincoming0, hcauses0, hplans0] at *
    generalize written k new (s.heard p) = v at *
    have hsv : Touches [.up p, .plans, .shown, .incoming, .tiles, .query, .drift, .causes] s v :=
      (hheard.mono (by simp)).then htouch (by simp)
    have hengine : v.engine = s.engine := hsv .engine (by simp)
    have hd' : v.d = s.d := hsv .d (by simp)
    have hchoose := choosesAfter_chooseAndBegin (s := s) (v := v) (by rw [hengine]) (by rw [hd']) (hsv .restart (by simp))
    have hbegins := begins_congr hd' hengine (begins_chooseAndBegin v)
    have hbegin := touches_chooseAndBegin (.refl [.d, .engine, .query] v) (by simp)
    have hup := replied_up (((htouch.mono (qs := [.d, .engine, .plans, .shown, .incoming, .tiles, .query, .drift, .causes])
      (by simp)).then hbegin (by simp))) (by simp) tag 0x04 .ok (slot :: new.bytes)
    generalize chooseAndBegin v = u at *
    have hreply := touches_replied_self p tag 0x04 .ok (slot :: new.bytes) u
    have hchoose' := fun q hq => choosesAfter_replied (p := p) (tag := tag) (code := 0x04) (o := .ok) (data := slot :: new.bytes)
      (t := u) (s := s) (q := q) hq
    have hbegins' := begins_replied (p := p) (tag := tag) (code := 0x04) (o := .ok) (data := slot :: new.bytes) hbegins
    have hre := fun d hr => retargeted_replied (k := k) (d := d) (p := p) (tag := tag) (code := 0x04) (o := .ok)
      (data := slot :: new.bytes) (retargeted_of_touches hbegin hr)
    generalize u.replied p tag 0x04 .ok (slot :: new.bytes) = t at *
    have hvt : Touches [.up p, .d, .engine, .query] v t := (hbegin.mono (by simp)).then hreply (by simp)
    have htile : ∀ j, t.tile j = v.tile j := State.tile_of_tiles (hvt .tiles (by simp))
    have hshown : t.shown = v.shown := hvt .shown (by simp)
    have hincoming : t.incoming = v.incoming := hvt .incoming (by simp)
    have hdrift : t.drift = v.drift := hvt .drift (by simp)
    have hcauses : t.causes = v.causes := hvt .causes (by simp)
    have hst : Touches [.up p, .d, .plans, .shown, .incoming, .engine, .tiles, .query, .drift, .causes] s t :=
      (hsv.mono (by simp)).then hvt (by simp)
    refine ⟨(hvt .plans (by simp)).trans hplans, hup, fun h => absurd h hsame, fun hg => ?_, fun hg => ?_, fun _ hn => ⟨?_, fun hp => ?_⟩,
      fun _ hn hp => ?_, fun hn hp => ?_, fun _ hn => ?_, fun _ hn hp => ?_, fun f _ hn hid hf => ?_, fun j hj => ?_,
      fun hold hnew ⟨j, dark, hj, hjk⟩ => ?_, hst, Raised.raisesOnly (by rw [hcauses]; exact hraised), hbegins'⟩
    · rw [hshown, hincoming, himages.1, himages.2, (hreset hg).1, (hreset hg).2, Table.get_set_self, Table.get_set_self]
      exact ⟨rfl, rfl⟩
    · rw [hshown, hincoming, himages.1, himages.2]
      exact hkeep hg
    · rw [htile]
      by_cases hp : (s.tile k).presence = .empty
      · rw [hnoneEmpty hn hp, hp]
      · rw [(hnone hn hp).1]
    · rw [htile, (hnone hn hp).1]
    · rw [htile, hempty hn hp]
    · rw [htile, habsent hn hp]
    · rw [hquery hn] at hchoose
      exact hchoose' _ hchoose
    · rw [(hnone hn hp).2] at hchoose
      exact hchoose' _ hchoose
    · obtain ⟨hentered, hkept, hmoved⟩ := hidentified f hn hid hf
      rw [htile, hdrift, hcauses]
      refine ⟨hentered, hkept, fun hq => ?_⟩
      obtain ⟨hmisfit, hunknown, hretarget⟩ := hmoved hq
      exact ⟨hmisfit, hunknown, fun h => hre _ (hretarget h)⟩
    · obtain ⟨h1, h2, h3, h4⟩ := hother j hj
      rw [htile, hshown, hincoming, hdrift]
      exact ⟨h1, h3, h4, h2⟩
    · rw [hcauses]
      exact hmirrors j dark hold hnew hj hjk

end Sys2Proof.Machine
end

section
/-! PROOFS. LIB-CLOSE: the checks in their order and the installed record (R87 to R90): O37. -/

namespace Sys2Proof.Machine

variable {s t u v : State}

section
variable {records : List Record} {l : Load}

theorem closeRefusal_of_incomplete (h : l.words.length < 31 ∨ recDefects l.words ≤ 64 ∧
    l.words.length < 31 + 3 * recDefects l.words) :
    closeRefusal records l = some ⟨.incomplete, beBytes 2 l.words.length, false⟩ := by
  unfold closeRefusal
  dsimp only
  by_cases hshort : l.words.length < 31
  · exact if_pos hshort
  · obtain ⟨hn, hlen⟩ := h.resolve_left hshort
    rw [if_neg hshort, if_neg (not_lt.mpr hn)]
    exact if_pos hlen

theorem closeRefusal_of_defects (hlen : 31 ≤ l.words.length) (h : 64 < recDefects l.words) :
    closeRefusal records l = some ⟨.badValue, [0, 30], true⟩ := by
  unfold closeRefusal
  dsimp only
  rw [if_neg (not_lt.mpr hlen)]
  exact if_pos h

theorem closeRefusal_of_excess (hlen : 31 ≤ l.words.length) (hn : recDefects l.words ≤ 64)
    (h : 31 + 3 * recDefects l.words < l.words.length) :
    closeRefusal records l = some ⟨.badValue, beBytes 2 (31 + 3 * recDefects l.words), true⟩ := by
  unfold closeRefusal
  dsimp only
  rw [if_neg (not_lt.mpr hlen), if_neg (not_lt.mpr hn), if_neg (show ¬ l.words.length < recordLength _ from not_lt.mpr h.le)]
  exact if_pos h

/-- Once the length fits, the words and then the place in the library decide. -/
theorem closeRefusal_of_complete (hn : recDefects l.words ≤ 64) (hlen : l.words.length = 31 + 3 * recDefects l.words) :
    (∀ i, firstBadWord l.identity l.words = some i → closeRefusal records l = some ⟨.badValue, beBytes 2 i, true⟩) ∧
    (firstBadWord l.identity l.words = none → closeRefusal records l =
      if libraryFull records l.identity l.words then some ⟨.full, [], true⟩ else none) := by
  have hfit : closeRefusal records l = match firstBadWord l.identity l.words with
      | some i => some ⟨.badValue, beBytes 2 i, true⟩
      | none => if libraryFull records l.identity l.words then some ⟨.full, [], true⟩ else none := by
    have hrec : l.words.length = recordLength (recDefects l.words) := hlen
    unfold closeRefusal
    dsimp only
    rw [if_neg (by omega), if_neg (not_lt.mpr hn), if_neg (by omega), if_neg (by omega)] <;> rfl
  exact ⟨fun i hi => by rw [hfit, hi], fun hi => by rw [hfit, hi]⟩

/-- R89: no place for a record. -/
theorem libraryFull_iff {id : W64} {r : Record} : libraryFull records id r = true ↔
    findRecord records id = none ∧ 48 ≤ records.length ∨ poolRoom records id < recDefects r := by
  simp only [libraryFull, Bool.or_eq_true, Bool.and_eq_true, decide_eq_true_eq, Option.isNone_iff_eq_none]
  rfl

theorem poolRoom_eq (id : W64) : poolRoom records id = 1024 - (records.map recDefects).sum +
    (match records.find? fun r => recIdentity r == id with
      | some r => recDefects r
      | none => 0) := by
  unfold poolRoom findRecord freePool poolUsed
  cases records.find? fun r => recIdentity r == id <;> rfl

/-- R90: the record put in the library. -/
theorem putRecord_cases (id : W64) (r : Record) :
    (∀ x, findRecord records id = some x → putRecord records id r = records.set (recordIndex records id) r) ∧
    (findRecord records id = none → putRecord records id r = records ++ [r]) := by
  unfold putRecord
  exact ⟨fun x hx => by rw [hx]; rfl, fun hn => by rw [hn]; rfl⟩

/-- A load that passes every check. -/
theorem closeRefusal_eq_none (hn : recDefects l.words ≤ 64) (hlen : l.words.length = 31 + 3 * recDefects l.words)
    (hwords : firstBadWord l.identity l.words = none)
    (hplace : (findRecord records l.identity).isSome = true ∨ records.length < 48)
    (hroom : recDefects l.words ≤ poolRoom records l.identity) : closeRefusal records l = none := by
  rw [(closeRefusal_of_complete hn hlen).2 hwords, if_neg]
  rw [libraryFull_iff]
  rintro (⟨hnone, hmany⟩ | hlt)
  · rcases hplace with hheld | hfew
    · rw [hnone] at hheld
      exact nomatch hheld
    · omega
  · omega

end

/-! ## The command -/

theorem libCloseBody_of_no_load (h : s.load = none) (p : Up) : libCloseBody p s = (s, ⟨.sequence, [0xFF, 0xFF]⟩) := by
  simp only [libCloseBody, h]
  rfl

theorem libCloseBody_of_other {l : Load} (h : s.load = some l) {p : Up} (howner : l.owner ≠ p) :
    libCloseBody p s = (s, .refuse .busy) := by
  simp only [libCloseBody, h, if_pos howner]

theorem libCloseBody_of_refused {l : Load} (h : s.load = some l) {c : CloseRefusal} (hc : closeRefusal s.records l = some c) :
    libCloseBody l.owner s = (if c.abandons then s.withLoad none else s, ⟨c.outcome, c.data⟩) := by
  simp only [libCloseBody, h, hc, if_neg (not_not.2 rfl)]

theorem libCloseBody_of_accepted {l : Load} (h : s.load = some l) (hc : closeRefusal s.records l = none) :
    libCloseBody l.owner s = (installLoad l s, .ok [byte1 (recordIndex s.records l.identity)]) := by
  simp only [libCloseBody, h, hc, if_neg (not_not.2 rfl)]

section
variable {tag : W16} {l : Load}

theorem exec_libClose_refused (hs : s.serves l.owner) (he : s.mayEdit l.owner) (h : s.load = some l) {c : CloseRefusal}
    (hc : closeRefusal s.records l = some c) : exec (.libClose l.owner tag) s =
      .next ((if c.abandons then (s.heard l.owner).withLoad none else s.heard l.owner).replied l.owner tag 0x0A c.outcome c.data) :=
  exec_edit (a := ⟨c.outcome, c.data⟩) rfl hs he
    (libCloseBody_of_refused (by rw [State.heard_load]; exact h) (by rw [State.heard_records]; exact hc))

theorem exec_libClose_accepted (hs : s.serves l.owner) (he : s.mayEdit l.owner) (h : s.load = some l)
    (hc : closeRefusal s.records l = none) : exec (.libClose l.owner tag) s =
      .next ((installLoad l (s.heard l.owner)).replied l.owner tag 0x0A .ok [byte1 (recordIndex s.records l.identity)]) :=
  exec_edit (a := .ok [byte1 (recordIndex s.records l.identity)]) rfl hs he
    ((libCloseBody_of_accepted (by rw [State.heard_load]; exact h) (by rw [State.heard_records]; exact hc)).trans
      (by rw [State.heard_records]))

end

theorem installLoad_load (l : Load) (s : State) : (installLoad l s).load = none :=
  (touches_applyLibraryChange l.identity (.refl [.tiles, .drift, .causes] _) (by simp) .load (by simp)).trans rfl

theorem touches_installLoad_self (l : Load) (s : State) : Touches [.load, .records, .tiles, .drift, .causes] s (installLoad l s) :=
  touches_installLoad l (.refl _ s) (by simp)

/-- Two states reached from one agree when they agree in the parts that may have changed. -/
theorem eq_of_touches {ps : List Part} (h : Touches ps s t) (g : Touches ps s u) (hsame : ∀ f ∈ ps, f.same u t) : t = u := by
  have hall : ∀ f, Part.same u t f := fun f => by
    by_cases hf : f ∈ ps
    · exact hsame f hf
    · have ht := h f hf
      have hu := g f hf
      cases f <;> exact ht.trans hu.symm
  exact State.ext_fields ⟨hall .pending, hall .clock, hall (.up .ua), hall (.up .ub), hall .d, hall .selector, hall .plans,
    hall .shown, hall .incoming, hall .receiver, hall .engine, hall .counts, hall .tiles, hall .query, hall .records,
    hall .load, hall .bands, hall .drift, hall .level, hall .settings, hall .flags, hall .holder, hall .restart,
    hall .waiting, hall .causes, hall .noticePlaced⟩

/-- Settles O37. -/
theorem libCloseChecksAndInstalls : Obligations.LibCloseChecksAndInstalls := by
  unfold Obligations.LibCloseChecksAndInstalls
  intro p tag s hs he
  refine ⟨fun h => exec_edit (a := ⟨.sequence, [0xFF, 0xFF]⟩) rfl hs he (libCloseBody_of_no_load (by rw [State.heard_load]; exact h) p),
    fun l h howner => exec_edit (a := .refuse .busy) rfl hs he (libCloseBody_of_other (by rw [State.heard_load]; exact h) howner), ?_⟩
  rintro l h rfl
  refine ⟨fun hlen => exec_libClose_refused hs he h (closeRefusal_of_incomplete hlen),
    fun hlen hn => exec_libClose_refused hs he h (closeRefusal_of_defects hlen hn),
    fun hlen hn hmore => exec_libClose_refused hs he h (closeRefusal_of_excess hlen hn hmore), fun hn hlen => ?_⟩
  obtain ⟨hbad, hgood⟩ := closeRefusal_of_complete (records := s.records) hn hlen
  refine ⟨fun i hi hfail hpass => exec_libClose_refused hs he h (hbad i (firstBadWord_eq_some _ _ i hi hfail hpass)),
    firstBadWord_eq_none _ _, fun hall => ?_⟩
  have hclose := hgood ((firstBadWord_eq_none _ _).mpr hall)
  intro held free room
  have hroom : poolRoom s.records l.identity = room := poolRoom_eq _
  refine ⟨fun hfull => exec_libClose_refused hs he h (c := ⟨.full, [], true⟩)
    (hclose.trans (if_pos (libraryFull_iff.mpr (by rw [hroom]; exact hfull)))), fun hplace hfits => ?_⟩
  have hnone := closeRefusal_eq_none hn hlen ((firstBadWord_eq_none _ _).mpr hall) hplace (by rw [hroom]; exact hfits)
  refine ⟨_, exec_libClose_accepted hs he h hnone, ?_⟩
  have hinstall := touches_installLoad_self l (s.heard l.owner)
  have hload := installLoad_load l (s.heard l.owner)
  have hrecords := records_installLoad l (s.heard l.owner)
  rw [State.heard_records] at hrecords
  obtain ⟨hreplace, happend⟩ := putRecord_cases (records := s.records) l.identity l.words
  have hup := replied_up hinstall (by simp) tag 0x0A .ok [byte1 (recordIndex s.records l.identity)]
  generalize installLoad l (s.heard l.owner) = v at *
  have hreply := touches_replied_self l.owner tag 0x0A .ok [byte1 (recordIndex s.records l.identity)] v
  generalize v.replied l.owner tag 0x0A .ok [byte1 (recordIndex s.records l.identity)] = t at *
  have hall' : Touches [.up l.owner, .load, .records, .tiles, .drift, .causes] (s.heard l.owner) t :=
    (hinstall.mono (by simp)).then hreply (by simp)
  have htrecords : t.records = v.records := hreply .records (by simp)
  have htload : t.load = none := (hreply .load (by simp)).trans hload
  refine ⟨htload, fun r hr => by rw [htrecords, hrecords]; exact hreplace r hr,
    fun hn' => by rw [htrecords, hrecords]; exact happend hn', by rw [hup]; rfl, ?_⟩
  refine eq_of_touches hall' ?_ fun f hf => ?_
  · simp (maxDischargeDepth := 99)
  simp only [List.mem_cons, List.not_mem_nil, or_false] at hf
  rcases hf with rfl | rfl | rfl | rfl | rfl | rfl
  · exact (State.withUp_up_self ..).symm
  · exact htload.trans (by simp)
  all_goals simp [Part.same]

end Sys2Proof.Machine
end

section
/-! PROOFS. Library changes and the slots (R76, R82, R94, R141): O38. -/

namespace Sys2Proof.Machine

variable {s t u v w : State}

/-! ## One slot judged again -/

/-- R76: the state a slot is in after a change of the record of an identity, if it is one that the change reaches. -/
def rejudgedAs (id : W64) (records : List Record) (x : Tile) : Option Presence :=
  match x.presence, x.facts with
  | .matched, some f => if f.serial = id then some (if libraryMatches records f then .matched else .unknown) else none
  | .unknown, some f => if f.serial = id ∧ libraryMatches records f = true then some .matched else none
  | _, _ => none

section
variable {id : W64} {k : SlotId}

theorem rejudge_of_none (h : rejudgedAs id s.records (s.tile k) = none) : rejudge id k s = s := by
  unfold rejudgedAs at h
  unfold rejudge
  cases hp : (s.tile k).presence <;> cases hf : (s.tile k).facts <;> rw [hp, hf] at h <;> try rfl
  case matched.some f =>
    dsimp only at h ⊢
    split at h
    · exact nomatch h
    · next hn => exact if_neg hn
  case unknown.some f =>
    dsimp only at h ⊢
    split at h
    · exact nomatch h
    · next hn => exact if_neg hn

/-- A slot that the change reaches has its targets computed, in the state it is then in. -/
theorem rejudge_of_some {q : Presence} (h : rejudgedAs id s.records (s.tile k) = some q) :
    (rejudge id k s = computeTargets k s ∧ q = (s.tile k).presence ∧ q = .matched) ∨
    (rejudge id k s = movePresence k q s ∧ (q = .unknown ∨ q = .matched)) := by
  unfold rejudgedAs at h
  unfold rejudge
  cases hp : (s.tile k).presence <;> cases hf : (s.tile k).facts <;> rw [hp, hf] at h <;> simp only [reduceCtorEq] at h
  case matched.some f =>
    dsimp only
    split at h
    · next hid =>
      rw [if_pos hid]
      cases hm : libraryMatches s.records f <;> rw [hm] at h <;> obtain rfl := Option.some.inj h
      · exact .inr ⟨rfl, .inl rfl⟩
      · exact .inl ⟨rfl, rfl, rfl⟩
    · exact nomatch h
  case unknown.some f =>
    dsimp only
    split at h
    · next hid =>
      obtain rfl := Option.some.inj h
      exact .inr ⟨if_pos hid, .inr rfl⟩
    · exact nomatch h

/-- What the change leaves of a slot that was `x` with drift record `d`. -/
def rejudged (id : W64) (k : SlotId) (records : List Record) (x : Tile) (d : Drift) (u : State) : Prop :=
  (rejudgedAs id records x = none → u.tile k = x ∧ u.drift.get k = d) ∧
  ∀ q, rejudgedAs id records x = some q → u.tile k = { x with presence := q } ∧ retargeted k d u ∧
    (q = .unknown → (u.causes.get Cause.unknownTile.number).pending = true)

theorem rejudged_rejudge (id : W64) (k : SlotId) (s : State) :
    rejudged id k s.records (s.tile k) (s.drift.get k) (rejudge id k s) := by
  refine ⟨fun h => by rw [rejudge_of_none h]; exact ⟨rfl, rfl⟩, fun q h => ?_⟩
  rcases rejudge_of_some h with ⟨heq, hq, hm⟩ | ⟨heq, hq⟩
  · rw [heq]
    refine ⟨?_, retargeted_computeTargets (by rw [← hq, hm]; rfl), fun hu => nomatch hm.symm.trans hu⟩
    rw [State.tile_of_tiles (computeTargets_tiles k s), hq]
  · rw [heq]
    obtain ⟨-, hre, -, hunknown⟩ := movePresence_entered k q s
    exact ⟨(movePresence_tile ..).trans (if_pos rfl), hre (by rcases hq with rfl | rfl <;> rfl), hunknown⟩

theorem touches_rejudge_self (id : W64) (k : SlotId) (s : State) : Touches [.tiles, .drift, .causes] s (rejudge id k s) :=
  touches_rejudge id k (.refl _ s) (by simp)

theorem rejudge_drift_other {j : SlotId} (h : j ≠ k) (s : State) : (rejudge id j s).drift.get k = s.drift.get k := by
  cases hr : rejudgedAs id s.records (s.tile j) with
  | none => rw [rejudge_of_none hr]
  | some q =>
    rcases rejudge_of_some hr with ⟨heq, -, -⟩ | ⟨heq, -⟩ <;> rw [heq]
    · exact computeTargets_drift_other (Ne.symm h) s
    · exact movePresence_drift_other (Ne.symm h) q s

theorem raised_rejudge_self (id : W64) (k : SlotId) (s : State) :
    Raised [.unknownTile, .driftRange] s.causes (rejudge id k s).causes := raised_rejudge id k .refl (by simp) (by simp)

theorem rejudged_other {j : SlotId} (h : j ≠ k) {records : List Record} {x : Tile} {d : Drift}
    (hu : rejudged id k records x d u) : rejudged id k records x d (rejudge id j u) := by
  have htouch := touches_rejudge_self id j u
  have hraised := raised_rejudge_self id j u
  have htile := rejudge_tile_other (id := id) h u
  have hdrift := rejudge_drift_other (id := id) h u
  obtain ⟨hnone, hsome⟩ := hu
  refine ⟨fun hn => ?_, fun q hq => ?_⟩
  · rw [htile, hdrift]
    exact hnone hn
  · obtain ⟨h1, h2, h3⟩ := hsome q hq
    exact ⟨htile.trans h1, retargeted_congr htile (htouch .records (by simp)) (htouch .settings (by simp)) hdrift
      hraised.pending h2, fun hu => hraised.pending (h3 hu)⟩

/-- R76: every slot is judged as it stood when the library changed. -/
theorem rejudged_applyLibraryChange (id : W64) (s : State) (k : SlotId) :
    rejudged id k s.records (s.tile k) (s.drift.get k) (applyLibraryChange id s) := by
  refine forSlots_each
    (Pre := fun k u => u.records = s.records ∧ u.tile k = s.tile k ∧ u.drift.get k = s.drift.get k)
    (Post := fun k u => rejudged id k s.records (s.tile k) (s.drift.get k) u) ?_ ?_ ?_ (fun k => ⟨rfl, rfl, rfl⟩) k
  · rintro k u ⟨hrecords, htile, hdrift⟩
    rw [← hrecords, ← htile, ← hdrift]
    exact rejudged_rejudge id k u
  · rintro j k u hne ⟨hrecords, htile, hdrift⟩
    exact ⟨(touches_rejudge_self id j u .records (by simp)).trans hrecords, (rejudge_tile_other hne u).trans htile,
      (rejudge_drift_other hne u).trans hdrift⟩
  · exact fun j k u hne hu => rejudged_other hne hu

end

theorem touches_applyLibraryChange_self (id : W64) (s : State) :
    Touches [.tiles, .drift, .causes] s (applyLibraryChange id s) := touches_applyLibraryChange id (.refl _ s) (by simp)

theorem rejudged_congr {id : W64} {k : SlotId} {records : List Record} {x : Tile} {d : Drift} (htile : t.tile k = u.tile k)
    (hrecords : t.records = u.records) (hset : t.settings = u.settings) (hdrift : t.drift = u.drift)
    (hcauses : t.causes = u.causes) (h : rejudged id k records x d u) : rejudged id k records x d t := by
  obtain ⟨hnone, hsome⟩ := h
  refine ⟨fun hn => ?_, fun q hq => ?_⟩
  · rw [htile, hdrift]
    exact hnone hn
  · obtain ⟨h1, h2, h3⟩ := hsome q hq
    exact ⟨htile.trans h1, retargeted_congr htile hrecords hset (by rw [hdrift]) (fun hp => by rwa [hcauses]) h2,
      fun hu => by rw [hcauses]; exact h3 hu⟩

/-! ## The record of an identity -/

theorem findRecord_eq_none {records : List Record} {id : W64} :
    findRecord records id = none ↔ ∀ r ∈ records, recIdentity r ≠ id := by
  simp [findRecord]

/-- R82, R94: with no identity twice, the record deleted is the one of its identity. -/
theorem eraseIdx_recordIndex {records : List Record} {id : W64} (h : (records.map recIdentity).Nodup) :
    records.eraseIdx (recordIndex records id) = records.filter fun r => decide (recIdentity r ≠ id) := by
  unfold recordIndex
  induction records with
  | nil => rfl
  | cons r rest ih =>
    rw [List.map_cons, List.nodup_cons] at h
    obtain ⟨hnotin, hrest⟩ := h
    by_cases hr : recIdentity r = id
    · have hkeep : ∀ x ∈ rest, decide (recIdentity x ≠ id) = true := fun x hx => by
        rw [decide_eq_true_eq]
        rintro hid
        exact hnotin (List.mem_map.mpr ⟨x, hx, hid.trans hr.symm⟩)
      rw [List.findIdx_cons, show (recIdentity r == id) = true from beq_iff_eq.mpr hr, List.filter_cons,
        if_neg (by simp [hr]), List.filter_eq_self.mpr hkeep]
      rfl
    · rw [List.findIdx_cons, show (recIdentity r == id) = false from beq_false_of_ne hr, List.filter_cons, if_pos (by simp [hr]),
        ← ih hrest]
      rfl

theorem findRecord_filter (records : List Record) (id : W64) :
    findRecord (records.filter fun r => decide (recIdentity r ≠ id)) id = none := by
  rw [findRecord_eq_none]
  intro r hr
  simpa using (List.mem_filter.mp hr).2

/-- R90: the record of the identity is then the one installed. -/
theorem findRecord_putRecord_self {records : List Record} {id : W64} {r : Record} (hr : recIdentity r = id) :
    findRecord (putRecord records id r) id = some r := by
  unfold putRecord
  split
  · next hheld =>
    have hi := (findRecord_isSome_iff records id).mp hheld
    rw [findRecord, List.find?_eq_some_iff_getElem]
    refine ⟨by simpa using hr, recordIndex records id, by simpa using hi, by simp, fun j hj => ?_⟩
    have hne : recordIndex records id ≠ j := by omega
    have hfirst := List.not_of_lt_findIdx hj
    simpa [hne] using hfirst
  · next hheld =>
    rw [Bool.not_eq_true, Option.isSome_eq_false_iff, Option.isNone_iff_eq_none] at hheld
    unfold findRecord at hheld ⊢
    rw [List.find?_append, hheld]
    simp [hr]

theorem libraryMatches_of_none {records : List Record} {f : TileFacts} (h : findRecord records f.serial = none) :
    libraryMatches records f = false := by
  rw [libraryMatches, h]

theorem libraryMatches_of_some {records : List Record} {f : TileFacts} {r : Record} (h : findRecord records f.serial = some r) :
    libraryMatches records f = true ↔ recWidth r = f.width.toNat ∧ recHeight r = f.height.toNat := by
  rw [libraryMatches, h]
  exact Bool.and_eq_true_iff.trans (and_congr decide_eq_true_iff decide_eq_true_iff)

/-! ## Which slots a change reaches -/

section
variable {id : W64} {records : List Record} {x : Tile} {f : TileFacts}

theorem rejudgedAs_of_matched (hp : x.presence = .matched) (hf : x.facts = some f) (hid : f.serial = id) :
    rejudgedAs id records x = some (if libraryMatches records f then .matched else .unknown) := by
  rw [rejudgedAs, hp, hf]
  exact if_pos hid

theorem rejudgedAs_of_unknown (hp : x.presence = .unknown) (hf : x.facts = some f) (hid : f.serial = id) :
    rejudgedAs id records x = if libraryMatches records f then some .matched else none := by
  rw [rejudgedAs, hp, hf]
  exact if_congr (and_iff_right hid) rfl rfl

theorem rejudgedAs_of_presence (hm : x.presence ≠ .matched) (hu : x.presence ≠ .unknown) : rejudgedAs id records x = none := by
  unfold rejudgedAs
  cases hp : x.presence
  case matched => exact absurd hp hm
  case unknown => exact absurd hp hu
  all_goals rfl

theorem rejudgedAs_of_serial (h : ∀ f, x.facts = some f → f.serial ≠ id) : rejudgedAs id records x = none := by
  unfold rejudgedAs
  cases hp : x.presence <;> cases hf : x.facts <;> try rfl
  case matched.some f => exact if_neg (h f hf)
  case unknown.some f => exact if_neg fun hn => h f hf hn.1

end

/-! ## The commands -/

theorem touches_withRecords_self (x : List Record) (s : State) : Touches [.records] s (s.withRecords x) :=
  touches_withRecords x (.refl _ s) (by simp)

theorem raised_applyLibraryChange_self (id : W64) (s : State) :
    Raised [.unknownTile, .driftRange] s.causes (applyLibraryChange id s).causes :=
  raised_applyLibraryChange id .refl (by simp) (by simp)

/-- What a library change, made on a state that differs from `s` in the library, a port and the load, leaves once it has
been answered. -/
theorem libraryChange_after {p : Up} {tag : W16} {code : Byte} {data : List Byte} {id : W64}
    (hw : Touches [.records, .load] (s.heard p) w) :
    let t := (applyLibraryChange id w).replied p tag code .ok data
    t.records = w.records ∧ t.up p = { (s.heard p).up p with queue := (s.up p).queue ++ [⟨0x30, tag, code :: 0x00 :: data⟩] } ∧
    Touches [.up p, .records, .load, .tiles, .drift, .causes] s t ∧ (w.load = s.load → t.load = s.load) ∧
    raisesOnly [.unknownTile, .driftRange] s t ∧ ∀ k, rejudged id k w.records (s.tile k) (s.drift.get k) t := by
  intro t
  have hsw : Touches [.up p, .records, .load] s w := ((touches_heard s p).mono (by simp)).then hw (by simp)
  have hchange := touches_applyLibraryChange_self id w
  have hraised := raised_applyLibraryChange_self id w
  have hslots := rejudged_applyLibraryChange id w
  have hreply := touches_replied_self p tag code .ok data (applyLibraryChange id w)
  have hup := replied_up (s := s) ((hw.mono (qs := [.records, .load, .tiles, .drift, .causes]) (by simp)).then hchange (by simp))
    (by simp) tag code .ok data
  have ht : t = (applyLibraryChange id w).replied p tag code .ok data := rfl
  generalize applyLibraryChange id w = v at *
  rw [← ht] at hreply hup
  clear_value t
  refine ⟨(hreply .records (by simp)).trans (hchange .records (by simp)), hup,
    ((hsw.mono (by simp)).then hchange (by simp)).then hreply (by simp),
    fun h => (hreply .load (by simp)).trans ((hchange .load (by simp)).trans h), Raised.raisesOnly ?_, fun k => ?_⟩
  · rw [show t.causes = v.causes from hreply .causes (by simp), ← show w.causes = s.causes from hsw .causes (by simp)]
    exact hraised
  · rw [← State.tile_of_tiles (hsw .tiles (by simp)) k, ← show w.drift = s.drift from hsw .drift (by simp)]
    exact rejudged_congr (State.tile_of_tiles (hreply .tiles (by simp)) k) (hreply .records (by simp))
      (hreply .settings (by simp)) (hreply .drift (by simp)) (hreply .causes (by simp)) (hslots k)

theorem exec_libDelete {p : Up} {tag : W16} {id : W64} (hs : s.serves p) (he : s.mayEdit p) :
    exec (.libDelete p tag id) s = .next (if (findRecord s.records id).isSome then
      (applyLibraryChange id ((s.heard p).withRecords (s.records.eraseIdx (recordIndex s.records id)))).replied p tag 0x0C .ok
        (beBytes 8 id.toNat)
      else (s.heard p).replied p tag 0x0C .noRecord []) := by
  cases hr : (findRecord s.records id).isSome with
  | true =>
    refine exec_edit (body := libDeleteBody id) (a := .ok (beBytes 8 id.toNat)) rfl hs he ?_
    rw [libDeleteBody, State.heard_records, if_pos hr]
  | false =>
    refine exec_edit (body := libDeleteBody id) (a := .refuse .noRecord) rfl hs he ?_
    rw [libDeleteBody, State.heard_records, if_neg (by rw [hr]; exact Bool.false_ne_true)]

/-- R94: a LIB-DELETE. -/
theorem libDelete_reaches {p : Up} {tag : W16} {id : W64} (hs : s.serves p) (he : s.mayEdit p) :
    ((∀ r ∈ s.records, recIdentity r ≠ id) →
      exec (.libDelete p tag id) s = .next ((s.heard p).replied p tag 0x0C .noRecord [])) ∧
    ((∃ r ∈ s.records, recIdentity r = id) → (s.records.map recIdentity).Nodup →
      ∃ t, exec (.libDelete p tag id) s = .next t ∧
        t.records = s.records.filter (fun r => decide (recIdentity r ≠ id)) ∧
        t.up p = { (s.heard p).up p with
          queue := (s.up p).queue ++ [⟨0x30, tag, 0x0C :: 0x00 :: beBytes 8 id.toNat⟩] } ∧
        Touches [.up p, .tiles, .records, .drift, .causes] s t ∧ raisesOnly [.unknownTile, .driftRange] s t ∧
        ∀ k, rejudged id k (s.records.filter fun r => decide (recIdentity r ≠ id)) (s.tile k) (s.drift.get k) t) := by
  rw [exec_libDelete hs he]
  refine ⟨fun hnone => ?_, fun hsome hnodup => ⟨_, rfl, ?_⟩⟩
  · rw [findRecord_eq_none.mpr hnone]
    rfl
  · have hheld : (findRecord s.records id).isSome = true := by
      rw [Option.isSome_iff_ne_none, Ne, findRecord_eq_none]
      obtain ⟨r, hr, hid⟩ := hsome
      exact fun hn => hn r hr hid
    rw [if_pos hheld, eraseIdx_recordIndex hnodup]
    have hw := touches_withRecords_self (s.records.filter fun r => decide (recIdentity r ≠ id)) (s.heard p)
    obtain ⟨hrecords, hup, htouch, hload, honly, hslots⟩ :=
      libraryChange_after (tag := tag) (code := 0x0C) (data := beBytes 8 id.toNat) (id := id) (hw.mono (by simp))
    have hkept := hload ((hw .load (by simp)).trans (State.heard_load s p))
    refine ⟨hrecords, hup, fun f hf => ?_, honly, hslots⟩
    by_cases hl : f = .load
    · subst hl
      exact hkept
    · exact htouch f (by simp_all)

/-- Settles O38. -/
theorem libraryChangesReachSlots : Obligations.LibraryChangesReachSlots := by
  unfold Obligations.LibraryChangesReachSlots
  refine ⟨fun p tag id s hs he => ?_, fun p tag l s hs he hl howner => ?_⟩
  · obtain ⟨hnone, hsome⟩ := libDelete_reaches (tag := tag) (id := id) hs he
    refine ⟨hnone, fun hheld hnodup => ?_⟩
    obtain ⟨t, hexec, hrecords, hup, htouch, honly, hslots⟩ := hsome hheld hnodup
    have hgone : ∀ f : TileFacts, f.serial = id →
        libraryMatches (s.records.filter fun r => decide (recIdentity r ≠ id)) f = false := fun f hf =>
      libraryMatches_of_none (by rw [hf]; exact findRecord_filter s.records id)
    refine ⟨t, hexec, hrecords, hup, htouch, honly, fun k f hp hf hid => ?_, fun k hk => (hslots k).1 ?_⟩
    · obtain ⟨htile, hre, hpending⟩ := (hslots k).2 .unknown (by rw [rejudgedAs_of_matched hp hf hid, hgone f hid]; rfl)
      exact ⟨htile, hpending rfl, hre⟩
    · rcases hk with hm | hserial
      · by_cases hu : (s.tile k).presence = .unknown
        · cases hf : (s.tile k).facts with
          | none => exact rejudgedAs_of_serial fun f hf' => nomatch hf.symm.trans hf'
          | some f =>
            by_cases hid : f.serial = id
            · rw [rejudgedAs_of_unknown hu hf hid, hgone f hid]
              rfl
            · exact rejudgedAs_of_serial fun f' hf' => by rwa [← Option.some.inj (hf.symm.trans hf')]
        · exact rejudgedAs_of_presence hm hu
      · exact rejudgedAs_of_serial hserial
  · subst howner
    intro n held room hn hlen hwords hplace hfits
    have hnone : closeRefusal s.records l = none :=
      closeRefusal_eq_none hn hlen hwords hplace (by rw [poolRoom_eq]; exact hfits)
    have hid := recIdentity_of_firstBadWord (by omega) hwords
    have hw : Touches [.records, .load] (s.heard l.owner)
        (((s.heard l.owner).withLoad none).withRecords (putRecord s.records l.identity l.words)) := by simp
    obtain ⟨-, -, htouch, -, honly, hslots⟩ := libraryChange_after (tag := tag) (code := 0x0A)
      (data := [byte1 (recordIndex s.records l.identity)]) (id := l.identity) hw
    have hinstall : installLoad l (s.heard l.owner) = applyLibraryChange l.identity
        (((s.heard l.owner).withLoad none).withRecords (putRecord s.records l.identity l.words)) := by
      rw [installLoad, State.heard_records]
    rw [← hinstall] at htouch honly hslots
    refine ⟨_, exec_libClose_accepted hs he hl hnone, ?_⟩
    generalize (installLoad l (s.heard l.owner)).replied l.owner tag 0x0A .ok _ = t at *
    simp only [State.withRecords_fields] at hslots
    refine ⟨fun f hf => htouch f (by simp_all), honly, fun k f hf hserial => ?_,
      fun k hm hu => (hslots k).1 (rejudgedAs_of_presence hm hu), fun k hk => (hslots k).1 (rejudgedAs_of_serial hk)⟩
    have hfits' := libraryMatches_of_some (f := f) (records := putRecord s.records l.identity l.words) (r := l.words)
      (by rw [hserial]; exact findRecord_putRecord_self hid)
    refine ⟨fun hp hfit => ?_, fun hp hfit => ?_, fun hp hfit => ?_, fun hp hfit => ?_⟩
    · obtain ⟨htile, hre, -⟩ := (hslots k).2 .matched (by rw [rejudgedAs_of_unknown hp hf hserial, if_pos (hfits'.mpr hfit)])
      exact ⟨htile, hre⟩
    · exact (hslots k).1 (by rw [rejudgedAs_of_unknown hp hf hserial, if_neg fun h => hfit (hfits'.mp h)])
    · obtain ⟨htile, hre, -⟩ := (hslots k).2 .matched (by rw [rejudgedAs_of_matched hp hf hserial, if_pos (hfits'.mpr hfit)])
      exact ⟨htile.trans (by rw [← hp]), hre⟩
    · obtain ⟨htile, hre, hpending⟩ := (hslots k).2 .unknown
        (by rw [rejudgedAs_of_matched hp hf hserial, if_neg fun h => hfit (hfits'.mp h)])
      exact ⟨htile, hpending rfl, hre⟩

end Sys2Proof.Machine
end

section
/-! PROOFS. RESTART, at once and at the scan end it waited for (R186, R187): O43, O44. -/

namespace Sys2Proof.Machine

variable {s t u v w : State}

/-! ## The restart values -/

/-- What a restart leaves of the blocks, a switch that was pending carried out, before the first probe is chosen. -/
structure AtRestart (s v : State) : Prop where
  receiver : v.receiver = ⟨.idle, false⟩
  shown : v.shown = Table.replicate 16 []
  incoming : v.incoming = Table.replicate 16 []
  engine : v.engine =
    { s.engine with scan := none, display := .live, repeatStart := some s.clock, holdStart := s.clock }
  counts : v.counts = Table.replicate 16 ⟨0, 0⟩
  tiles : v.tiles = s.tiles.map (restartTile s.clock)
  query : v.query = { s.query with outstanding := none, senseList := [], pointer := 0, roundDue := false, divider := 0 }
  load : v.load = none
  drift : v.drift = Table.replicate 16 Drift.reset
  rest : Touches [.shown, .incoming, .receiver, .engine, .counts, .tiles, .query, .load, .drift, .causes, .selector] s v

theorem atRestart_cleared (s : State) : AtRestart s (clearAllCauses (restartBlocks s)) := by
  constructor
  case rest => exact touches_clearAllCauses (touches_restartBlocks (.refl _ s) (by simp)) (by simp)
  all_goals simp [clearAllCauses, restartBlocks, restartDrift, restartChain, restartEngine, restartFrames]

theorem AtRestart.mono (h : AtRestart s u) (g : Touches [.selector, .causes] u v) : AtRestart s v where
  receiver := (g .receiver (by simp)).trans h.receiver
  shown := (g .shown (by simp)).trans h.shown
  incoming := (g .incoming (by simp)).trans h.incoming
  engine := (g .engine (by simp)).trans h.engine
  counts := (g .counts (by simp)).trans h.counts
  tiles := (g .tiles (by simp)).trans h.tiles
  query := (g .query (by simp)).trans h.query
  load := (g .load (by simp)).trans h.load
  drift := (g .drift (by simp)).trans h.drift
  rest := h.rest.then g (by simp)

theorem atRestart_restartValues (s : State) : AtRestart s (restartValues s) :=
  (atRestart_cleared s).mono (touches_carrySwitch (.refl _ _) (by simp))

/-- A restart makes a slot that is not EMPTY ABSENT, its probe due at once. -/
theorem AtRestart.tile (h : AtRestart s v) (k : SlotId) : v.tile k = restartTile s.clock (s.tile k) := by
  rw [State.tile, h.tiles, Table.get_map]
  rfl

/-- R12, R186: the switch that was pending is carried out by a restart. -/
theorem restartValues_of_switch {q : Up} (h : s.selector.toSwitch = some q) : restartValues s =
    raise .sourceSwitch none ((clearAllCauses (restartBlocks s)).withSelector ⟨some q, none⟩) := by
  have hc := atRestart_cleared s
  have hsel : (clearAllCauses (restartBlocks s)).selector = s.selector := by simp [clearAllCauses, restartBlocks,
    restartDrift, restartChain, restartEngine, restartFrames]
  exact carrySwitch_of_some (by rw [hsel, h]) (by rw [State.receiving, hc.receiver])

theorem restartValues_of_no_switch (h : s.selector.toSwitch = none) :
    restartValues s = clearAllCauses (restartBlocks s) := by
  have hsel : (clearAllCauses (restartBlocks s)).selector = s.selector := by simp [clearAllCauses, restartBlocks,
    restartDrift, restartChain, restartEngine, restartFrames]
  exact carrySwitch_of_none (by rw [hsel, h])

theorem cleared_get (s : State) (c : Fin 16) :
    (clearAllCauses (restartBlocks s)).causes.get c = (s.causes.get c).cleared := by
  simp [clearAllCauses, restartBlocks, restartDrift, restartChain, restartEngine, restartFrames]

/-- R186 step 2: a restart clears every cause, and the switch it carries out raises SOURCE-SWITCH. -/
theorem restartValues_causes (s : State) :
    (∀ c, c ≠ Cause.sourceSwitch.number → (restartValues s).causes.get c = (s.causes.get c).cleared) ∧
    ((restartValues s).causes.get Cause.sourceSwitch.number).pending = s.selector.toSwitch.isSome := by
  cases h : s.selector.toSwitch with
  | some q =>
    rw [restartValues_of_switch h]
    refine ⟨fun c hc => ?_, raise_pending _ _ _⟩
    rw [← cleared_get]
    exact Raised.get_of_notMem (cs := [.sourceSwitch]) (by simp) (by simpa using Ne.symm hc)
  | none =>
    rw [restartValues_of_no_switch h]
    exact ⟨fun c _ => cleared_get s c, by rw [cleared_get]; rfl⟩

theorem restartValues_selector (s : State) : (restartValues s).selector = match s.selector.toSwitch with
    | some q => ⟨some q, none⟩
    | none => s.selector := by
  cases h : s.selector.toSwitch with
  | some q => rw [restartValues_of_switch h]; simp [raise]
  | none =>
    rw [restartValues_of_no_switch h]
    simp [clearAllCauses, restartBlocks, restartDrift, restartChain, restartEngine, restartFrames]

/-! ## The first probe after a restart -/

/-- Without a scan in flight a cell boundary that leaves no query outstanding begins nothing. -/
theorem beginNext_of_idle (hscan : u.engine.scan = none) (h : (beginNext u).query.outstanding = none) :
    (beginNext u).d = u.d := by
  have hq : u.query.outstanding = none := by
    by_contra hne
    obtain ⟨q, hq⟩ := Option.ne_none_iff_exists'.mp hne
    rw [beginNext_query] at h
    unfold QueryUnit.begun at h
    rw [hq] at h
    dsimp only at h
    split at h
    · exact nomatch h
    · rw [hq] at h
      exact nomatch h
  have hcell : beginScanCell u = u := by rw [beginScanCell, hscan]
  unfold beginNext
  split
  · rfl
  · rw [hq]
    dsimp only
    rw [hcell]

theorem chooseAndBegin_of_idle (hscan : v.engine.scan = none) (h : (chooseAndBegin v).query.outstanding = none) :
    (chooseAndBegin v).d = v.d := by
  have hc := chooseQuery_same v.engine.scan.isNone v
  have hengine : (chooseQuery v.engine.scan.isNone v).engine = v.engine := hc .engine (by simp)
  exact (beginNext_of_idle (by rw [hengine, hscan]) h).trans (hc .d (by simp))

theorem chooseAndBegin_engine_of_idle (hscan : v.engine.scan = none) : (chooseAndBegin v).engine = v.engine := by
  obtain ⟨-, -, h | ⟨sc, c, rest, hsc, -⟩⟩ := begins_chooseAndBegin v
  · exact h
  · rw [hscan] at hsc
    exact nomatch hsc

/-- After a restart the probe of a slot is due exactly when the slot is not EMPTY. -/
theorem AtRestart.probeIsDue (h : AtRestart s v) (k : SlotId) : probeIsDue v k = decide ((s.tile k).presence ≠ .empty) := by
  have hclock : v.clock = s.clock := h.rest .clock (by simp)
  rw [Sys2Proof.Machine.probeIsDue, h.tile, restartTile, hclock]
  split
  · next he => simp [he]
  · next he => simp [he, dueTime]

/-- R79, R187: the first query after a restart. -/
theorem AtRestart.chooses (h : AtRestart s v) (hr : s.restart = none) :
    choosesNext true (if s.d.tx = none then .sending else .waiting) v (chooseAndBegin v).query := by
  have hscan : v.engine.scan = none := by rw [h.engine]
  have htx : v.d = s.d := h.rest .d (by simp)
  have hvr : v.restart = none := (h.rest .restart (by simp)).trans hr
  have hphase : nextPhase v = if s.d.tx = none then .sending else .waiting := by
    rw [nextPhase_eq, htx, restartDue, hvr]
    cases s.d.tx <;> rfl
  have hafter := choosesAfter_chooseAndBegin (v := v) rfl rfl rfl
  have hnone : v.query.outstanding = none := by rw [h.query]
  have hchoice := hafter (fun q hq => by rw [hnone] at hq; exact nomatch hq)
  rw [hphase, hscan] at hchoice
  have hb := touches_chooseAndBegin (.refl [.d, .engine, .query] v) (by simp)
  refine choosesNext_congr ?_ ?_ ?_ ?_ ?_ hchoice
  · simp only [State.withQuery_fields]
    rw [(begins_chooseAndBegin v).1]
  · simpa using (hb .tiles (by simp)).symm
  · simpa using (hb .clock (by simp)).symm
  · simpa using (hb .settings (by simp)).symm
  · simp

/-- Of the query unit the first choice after a restart changes the outstanding query and its tag alone. -/
theorem AtRestart.chosen (h : AtRestart s v) (hr : s.restart = none) :
    ∃ o tag, (chooseAndBegin v).query = { v.query with outstanding := o, tagCounter := tag } := by
  have hchoice := h.chooses hr
  by_cases hidle : v.d.aligned = false ∨ v.query.outstanding.isSome = true
  · exact ⟨_, _, hchoice.1 hidle⟩
  · have hnone : v.query.outstanding = none := by rw [h.query]
    simp only [not_or, Bool.not_eq_false] at hidle
    obtain ⟨hprobe, hno⟩ := hchoice.2 hidle.1 hnone
    cases hf : allSlots.find? (Sys2Proof.Machine.probeIsDue v) with
    | some k =>
      obtain ⟨hk, hlt⟩ := find?_allSlots_eq_some.mp hf
      exact ⟨_, _, hprobe k hk hlt⟩
    | none => exact ⟨_, _, ((hno (find?_allSlots_eq_none.mp hf)).2 rfl).2.1 (by rw [h.query]) (by rw [h.query])⟩

/-- R79: without a slot to probe, or with port D not ALIGNED, a restart chooses no query. -/
theorem AtRestart.chooses_none (h : AtRestart s v) (hr : s.restart = none)
    (hno : s.d.aligned = false ∨ ∀ k, (s.tile k).presence = .empty) : (chooseAndBegin v).query = v.query := by
  have hchoice := h.chooses hr
  have hd : v.d = s.d := h.rest .d (by simp)
  by_cases ha : v.d.aligned = false
  · exact hchoice.1 (.inl ha)
  · rw [hd] at ha
    have hempty := hno.resolve_left ha
    obtain ⟨-, hsense⟩ := hchoice.2 (by rw [hd]; simpa using ha) (by rw [h.query])
    exact ((hsense fun k => by rw [h.probeIsDue]; simp [hempty k]).2 rfl).2.1 (by rw [h.query]) (by rw [h.query])

/-- R79, R187: with port D ALIGNED a restart probes the first slot that is not EMPTY. -/
theorem AtRestart.chooses_probe (h : AtRestart s v) (hr : s.restart = none) (ha : s.d.aligned = true) {k : SlotId}
    (hk : (s.tile k).presence ≠ .empty) (hlt : ∀ j, j < k → (s.tile j).presence = .empty) :
    (chooseAndBegin v).query = { v.query with
      outstanding := some ⟨.probe, k, s.query.tagCounter + 1, if s.d.tx = none then .sending else .waiting⟩
      tagCounter := s.query.tagCounter + 1 } := by
  have hd : v.d = s.d := h.rest .d (by simp)
  obtain ⟨hprobe, -⟩ := (h.chooses hr).2 (by rw [hd]; exact ha) (by rw [h.query])
  have htag : v.query.tagCounter = s.query.tagCounter := by rw [h.query]
  rw [hprobe k (by rw [h.probeIsDue]; simpa using hk) fun j hj => by rw [h.probeIsDue]; simp [hlt j hj], htag]

/-- R186: a restart, carried out while no other waits. -/
theorem restarted_restartPart (hr : s.restart = none) : restarted s (restartPart s) := by
  have hv := atRestart_restartValues s
  have hsel := restartValues_selector s
  obtain ⟨hcleared, hswitch⟩ := restartValues_causes s
  have hpart : restartPart s = chooseAndBegin (restartValues s) := rfl
  rw [hpart]
  generalize restartValues s = v at *
  obtain ⟨o, tag, hquery⟩ := hv.chosen hr
  have hnone := hv.chooses_none hr
  have hprobe := hv.chooses_probe hr
  have hscan : v.engine.scan = none := by rw [hv.engine]
  have hengine := (chooseAndBegin_engine_of_idle hscan).trans hv.engine
  have hd : v.d = s.d := hv.rest .d (by simp)
  have hidle := chooseAndBegin_of_idle hscan
  obtain ⟨hbd, hbtx, -⟩ := begins_chooseAndBegin v
  have hb := touches_chooseAndBegin (.refl [.d, .engine, .query] v) (by simp)
  have hkept : Touches [.d, .shown, .incoming, .receiver, .engine, .counts, .tiles, .query, .load, .drift, .causes,
      .selector] s (chooseAndBegin v) := (hv.rest.mono (by simp)).then hb (by simp)
  generalize chooseAndBegin v = t at *
  rw [hd] at hbd hbtx hidle
  rw [hv.query] at hquery hnone hprobe
  have htile : ∀ k, t.tile k = restartTile s.clock (s.tile k) := fun k => by
    rw [State.tile_of_tiles (hb .tiles (by simp)), hv.tile]
  have hcauses : t.causes = v.causes := hb .causes (by simp)
  refine ⟨(hb .receiver (by simp)).trans hv.receiver, fun k => ⟨?_, ?_⟩, by rw [hengine], by rw [hengine], by rw [hengine],
    by rw [hengine], by rw [hengine], by rw [hengine], by rw [hengine], fun k => ?_, fun k hk => ?_, fun k hk => ?_, hbd, hbtx,
    fun hno => ?_, fun ha k hk hlt => ?_, by rw [hquery], by rw [hquery], by rw [hquery], by rw [hquery],
    (hb .load (by simp)).trans hv.load, fun k => ?_, fun c hc => ?_, by rw [hcauses]; exact hswitch,
    (hb .selector (by simp)).trans hsel, hkept .plans (by simp), hkept .records (by simp), hkept .bands (by simp),
    hkept .level (by simp), hkept .settings (by simp), hkept .flags (by simp), hkept .holder (by simp), hkept .clock (by simp),
    hkept .pending (by simp), hkept .noticePlaced (by simp)⟩
  · rw [show t.shown = v.shown from hb .shown (by simp), hv.shown, Table.get_replicate]
  · rw [show t.incoming = v.incoming from hb .incoming (by simp), hv.incoming, Table.get_replicate]
  · rw [show t.counts = v.counts from hb .counts (by simp), hv.counts, Table.get_replicate]
  · rw [htile, restartTile, if_pos hk]
  · rw [htile, restartTile, if_neg hk]
  · have hsame := hnone hno
    exact ⟨by rw [hsame], by rw [hidle (by rw [hsame])], by rw [hsame]⟩
  · rw [hprobe ha hk hlt]
    exact ⟨rfl, rfl⟩
  · rw [show t.drift = v.drift from hb .drift (by simp), hv.drift, Table.get_replicate]
    rfl
  · rw [hcauses, hcleared c hc]
    rfl

/-- A restart says nothing of the ports, the wait and the requests that waited. -/
theorem restarted_of_same (hs : Touches [.up .ua, .up .ub, .restart, .waiting] s u)
    (ht : Touches [.up .ua, .up .ub, .restart, .waiting] t w) (h : restarted u t) : restarted s w := by
  have fields : ∀ {a b : State}, Touches [.up .ua, .up .ub, .restart, .waiting] a b →
      b.receiver = a.receiver ∧ b.shown = a.shown ∧ b.incoming = a.incoming ∧ b.engine = a.engine ∧ b.clock = a.clock ∧
      b.counts = a.counts ∧ b.tiles = a.tiles ∧ b.d = a.d ∧ b.query = a.query ∧ b.load = a.load ∧ b.drift = a.drift ∧
      b.causes = a.causes ∧ b.selector = a.selector ∧ b.plans = a.plans ∧ b.records = a.records ∧ b.bands = a.bands ∧
      b.level = a.level ∧ b.settings = a.settings ∧ b.flags = a.flags ∧ b.holder = a.holder ∧ b.pending = a.pending ∧
      b.noticePlaced = a.noticePlaced := fun {a b} k => by
    refine ⟨k .receiver ?_, k .shown ?_, k .incoming ?_, k .engine ?_, k .clock ?_, k .counts ?_, k .tiles ?_, k .d ?_,
      k .query ?_, k .load ?_, k .drift ?_, k .causes ?_, k .selector ?_, k .plans ?_, k .records ?_, k .bands ?_, k .level ?_,
      k .settings ?_, k .flags ?_, k .holder ?_, k .pending ?_, k .noticePlaced ?_⟩ <;> simp
  unfold restarted at h ⊢
  simp only [State.tile, fields hs, fields ht] at h ⊢
  exact h

/-! ## RESTART at its arrival -/

/-- The body of a RESTART that may be made. -/
theorem restartReq_body {p : Up} (tag : W16) (h : s.mayEdit p) :
    (restartReq p tag).body (s.heard p) = restartBody p tag (s.heard p) := by
  show (if editRefused (s.heard p) p then _ else _) = _
  rw [editRefused_heard h]
  rfl

/-- Settles O43. -/
theorem restartIsCarriedOutOrWaits : Obligations.RestartIsCarriedOutOrWaits := by
  unfold Obligations.RestartIsCarriedOutOrWaits
  intro p tag s hs he
  have hd : (s.heard p).d = s.d := by simp
  refine ⟨fun hfree => ?_, fun c hc hk => ?_⟩
  · have hbody : (restartReq p tag).body (s.heard p) = (restartPart (s.heard p), some (.ok [])) := by
      rw [restartReq_body tag he, restartBody, showBegun_eq_false (by rw [hd]; exact hfree)]
      rfl
    have hr : (s.heard p).restart = none := by simpa using hs.2.2
    have hrestarted := restarted_restartPart hr
    have htouch := touches_restartPart (.refl
      [.d, .selector, .shown, .incoming, .receiver, .engine, .counts, .tiles, .query, .load, .drift, .causes] (s.heard p))
      (by simp)
    have hheard : Touches [.up .ua, .up .ub, .restart, .waiting] s (s.heard p) :=
      (touches_heard s p).mono (by cases p <;> simp)
    refine ⟨_, exec_served (i := .restart p tag) rfl rfl hs hbody, ?_, ?_, ?_, ?_, ?_⟩
    all_goals
      simp only [restartReq]
      generalize restartPart (s.heard p) = v at *
    · exact restarted_of_same hheard ((touches_replied_self p _ _ _ _ v).mono (by cases p <;> simp)) hrestarted
    · simpa [State.replied, State.enqueue] using (htouch .restart (by simp)).trans hr
    · have hw : v.waiting = (s.heard p).waiting := htouch .waiting (by simp)
      simpa [State.replied, State.enqueue] using hw
    · have hup : v.up p = (s.heard p).up p := htouch (.up p) (by simp)
      rw [State.replied, State.enqueue, State.withUp_up_self, hup]
      simp [Answer.ok, kindReply, ReqOutcome.code]
    · have hup : v.up (otherPort p) = (s.heard p).up (otherPort p) := htouch (.up (otherPort p)) (by simp)
      rw [State.replied, State.enqueue, State.withUp_up_other, hup, State.heard, State.withUp_up_other]
  · refine exec_served_silent (p := p) (r := restartReq p tag) rfl rfl hs ?_
    rw [restartReq_body tag he, restartBody, showBegun_eq_true (by rw [hd]; exact hc) hk]
    rfl

/-! ## BLANKn assertions that waited -/

/-- What `n` BLANKn assertions in a row leave: each starts a scan, the last one's is in flight and no cell of it has begun. -/
structure Blanked (n : Nat) (s t : State) : Prop where
  engine : t.engine =
    { s.engine with scan := some (freshScan t), number := s.engine.number + BitVec.ofNat 16 n, repeatStart := none }
  rest : Touches [.drift, .level, .causes, .engine] s t

theorem blanked_blankRestart (h : s.receiver.ready = false) : Blanked 1 s (blankRestart s) := by
  have ha : Touches [.engine] s (abortScan s) := touches_abortScan (.refl _ s) (by simp)
  have hready : (abortScan s).receiver.ready = false := by simpa [abortScan] using h
  obtain ⟨-, -, hrest⟩ := startScan_of_not_ready hready
  have hengine := startScan_engine_eq (abortScan s)
  rw [swapped_of_not_ready hready, started_startScan (abortScan s)] at hengine
  refine ⟨?_, (ha.mono (by simp)).trans hrest⟩
  show (startScan (abortScan s)).engine = _
  rw [hengine]
  rfl

theorem Blanked.succ {n : Nat} (h : Blanked 1 s u) (g : Blanked n u t) : Blanked (n + 1) s t := by
  refine ⟨?_, h.rest.trans g.rest⟩
  rw [g.engine, h.engine]
  have hsum : s.engine.number + BitVec.ofNat 16 1 + BitVec.ofNat 16 n = s.engine.number + BitVec.ofNat 16 (n + 1) := by
    rw [BitVec.add_assoc, ← BitVec.ofNat_add, Nat.add_comm 1 n]
  rw [hsum]

/-- R54: what the BLANKn assertions that waited do, one after another, when no frame is READY. -/
theorem blanked_blankRestarts {n : Nat} (hn : 0 < n) (h : s.receiver.ready = false) : Blanked n s (blankRestarts n s) := by
  induction n generalizing s with
  | zero => exact absurd hn (lt_irrefl 0)
  | succ n ih =>
    have hone := blanked_blankRestart h
    cases n with
    | zero => exact hone
    | succ n =>
      exact hone.succ (ih n.succ_pos (by rw [show (blankRestart s).receiver = s.receiver from hone.rest .receiver (by simp)]; exact h))

theorem Blanked.started {n : Nat} (h : Blanked n s t) : Sys2Proof.Machine.started t := by
  rw [Sys2Proof.Machine.started, h.engine]

/-! ## The restart that waited -/

theorem replyRestart_of_lost {x : RestartWait} (h : x.replyLost = true ∨ (s.up x.port).state = .down) :
    replyRestart x s = s := by
  refine if_pos ?_
  rcases h with h | h
  · simp [h]
  · simp [State.takesCells, h]

theorem replyRestart_of_open {x : RestartWait} (hl : x.replyLost = false) (h : (s.up x.port).state ≠ .down) :
    replyRestart x s = s.replied x.port x.tag 0x1B .ok [] :=
  if_neg (by simp [hl, State.takesCells, h])

/-- The state after the restart that waited, its reply queued, before the BLANKn assertions that came after it act. -/
def answered (x : RestartWait) (s : State) : State := replyRestart x (restartPart (endWait s))

/-- The state in which the requests that waited are taken (R186). -/
def afterRestart (x : RestartWait) (s : State) : State := beginNext (blankRestarts x.blanks (answered x s))

theorem exec_restartAtScanEnd {x : RestartWait} (h : s.restart = some x) (he : x.scanEnded = true) :
    exec .restartAtScanEnd s = .next (s.waiting.foldl takeWaiting (afterRestart x s)) := by
  show Host.Outcome.next (deferredRestart s) = _
  rw [deferredRestart, h]
  dsimp only
  rw [if_pos he]
  rfl

theorem touches_endWait (s : State) : Touches [.restart, .waiting] s (endWait s) :=
  touches_withWaiting _ (touches_withRestart _ (.refl _ s) (by simp)) (by simp)

/-- R186: what the restart that waited leaves. -/
theorem answered_fields (x : RestartWait) (s : State) :
    restarted s (answered x s) ∧ (answered x s).restart = none ∧ (answered x s).waiting = [] ∧
    (answered x s).up (otherPort x.port) = s.up (otherPort x.port) ∧
    (x.replyLost = false → (s.up x.port).state ≠ .down → (answered x s).up x.port =
      { s.up x.port with queue := (s.up x.port).queue ++ [⟨0x30, x.tag, [0x1B, 0x00]⟩] }) ∧
    (x.replyLost = true ∨ (s.up x.port).state = .down → (answered x s).up x.port = s.up x.port) ∧
    Touches [.up x.port, .restart, .waiting, .d, .selector, .shown, .incoming, .receiver, .engine, .counts, .tiles, .query,
      .load, .drift, .causes] s (answered x s) := by
  have hw := touches_endWait s
  have hrestart : (endWait s).restart = none := by simp [endWait]
  have hrestarted := restarted_restartPart hrestart
  have hv := touches_restartPart (.refl
    [.d, .selector, .shown, .incoming, .receiver, .engine, .counts, .tiles, .query, .load, .drift, .causes] (endWait s))
    (by simp)
  unfold answered
  generalize restartPart (endWait s) = v at *
  have hup : ∀ p, v.up p = s.up p := fun p => (hv (.up p) (by simp)).trans (hw (.up p) (by simp))
  have ht : Touches [.up x.port] v (replyRestart x v) := touches_replyRestart x (.refl _ v) (by simp)
  have hkept : Touches [.up x.port, .restart, .waiting, .d, .selector, .shown, .incoming, .receiver, .engine, .counts, .tiles,
      .query, .load, .drift, .causes] s v := (hw.mono (by simp)).then hv (by simp)
  refine ⟨restarted_of_same (hw.mono (by simp)) (ht.mono (by cases x.port <;> simp)) hrestarted, ?_, ?_, ?_, fun hl hd => ?_,
    fun hl => ?_, hkept.then ht (by simp)⟩
  · exact (ht .restart (by simp)).trans ((hv .restart (by simp)).trans hrestart)
  · exact (ht .waiting (by simp)).trans ((hv .waiting (by simp)).trans (by simp [endWait]))
  · exact (ht (.up (otherPort x.port)) (by simp [otherPort_ne])).trans (hup _)
  · rw [replyRestart_of_open hl (by rw [hup]; exact hd), State.replied, State.enqueue, State.withUp_up_self, hup]
    simp [kindReply, ReqOutcome.code]
  · rw [replyRestart_of_lost (by rw [hup]; exact hl), hup]

/-- R187: the first probe after a restart waits only for a cell in transmission. -/
theorem busy_of_restarted (h : restarted s t) {q : Query} (hq : t.query.outstanding = some q) (hw : q.phase = .waiting) :
    t.d.tx.isSome = true := by
  obtain ⟨-, -, -, -, -, -, -, -, -, -, -, -, -, hbusy, hnone, hprobe, -⟩ := h
  have hsome : ¬ (s.d.aligned = false ∨ ∀ k, (s.tile k).presence = .empty) := fun hn => by
    rw [(hnone hn).1] at hq
    exact nomatch hq
  simp only [not_or, Bool.not_eq_false] at hsome
  cases hf : allSlots.find? fun k => decide ((s.tile k).presence ≠ .empty) with
  | none => exact absurd (fun k => by simpa using find?_allSlots_eq_none.mp hf k) hsome.2
  | some k =>
    obtain ⟨hk, hlt⟩ := find?_allSlots_eq_some.mp hf
    obtain ⟨-, ho⟩ := hprobe hsome.1 k (by simpa using hk) (fun j hj => by simpa using hlt j hj)
    rw [ho] at hq
    obtain rfl := Option.some.inj hq
    by_contra hfree
    cases htx : s.d.tx with
    | some c => exact hfree (by rw [hbusy (by rw [htx]; rfl), htx]; rfl)
    | none => simp [htx] at hw

/-- Without a scan in flight and without a query to begin, a cell boundary changes nothing. -/
theorem beginNext_eq_self (hscan : u.engine.scan = none)
    (hq : ∀ q, u.query.outstanding = some q → q.phase = .waiting → u.d.tx.isSome = true) : beginNext u = u := by
  have hcell : beginScanCell u = u := by rw [beginScanCell, hscan]
  unfold beginNext
  split
  · rfl
  · next hfree =>
    split
    · next q ho =>
      split
      · next hw => exact absurd (by simp [hq q ho hw]) hfree
      · exact hcell
    · exact hcell

theorem afterRestart_of_no_blanks {x : RestartWait} (h : x.blanks = 0) : afterRestart x s = answered x s := by
  obtain ⟨hrestarted, -⟩ := answered_fields x s
  rw [afterRestart, h]
  exact beginNext_eq_self hrestarted.2.2.1 fun q => busy_of_restarted hrestarted

/-- The restart that waited keeps the links of the ports. -/
theorem afterRestart_sameLink (x : RestartWait) (p : Up) (s : State) : (s.up p).SameLink ((afterRestart x s).up p) := by
  have hv : (restartPart (endWait s)).up p = s.up p := (restartPart_up p _).trans (touches_endWait s (.up p) (by simp))
  have hlast : (afterRestart x s).up p = (answered x s).up p := touches_beginNext (touches_blankRestarts _ (.refl
    [.d, .shown, .incoming, .receiver, .engine, .query, .drift, .level, .causes] (answered x s)) (by simp)) (by simp)
    (.up p) (by simp)
  rw [hlast, answered, ← hv]
  unfold replyRestart
  split
  · exact .refl _
  · rw [State.enqueue]
    refine sameLink_withUp ?_ p
    exact ⟨rfl, rfl, rfl, Iff.rfl⟩

theorem foldl_takeWaiting_sameLink (l : List Instr) (p : Up) (s : State) :
    (s.up p).SameLink ((l.foldl takeWaiting s).up p) := by
  induction l generalizing s with
  | nil => exact .refl _
  | cons i l ih => exact (takeWaiting_sameLink i p s).trans (ih _)

/-- A cell counted on a port whose good run is full and whose failed run is 0 changes nothing. -/
theorem heard_of_full {p : Up} (hg : (s.up p).goodRun = 8) (hf : (s.up p).failedRun = 0) : s.heard p = s := by
  have hsame : ({ s.up p with goodRun := min 8 ((s.up p).goodRun + 1), failedRun := 0 } : Upstream) = s.up p := by
    rw [hg, ← hf]
    exact congrArg (fun n => ({ s.up p with goodRun := n } : Upstream)) hg.symm
  rw [State.heard, hsame, State.withUp_up_eq_self]

/-- A request on such a port acts as a request that waited. -/
theorem exec_of_full {i : Instr} {p : Up} (hi : Instr.requestPort i = some p) (hl : s.listens p)
    (hg : (s.up p).goodRun = 8) (hf : (s.up p).failedRun = 0) : exec i s = .next (takeWaiting s i) := by
  cases hr : requestOf i with
  | some r =>
    obtain rfl : r.port = p := Option.some.inj ((requestOf_port hr).symm.trans hi)
    rw [exec_request hr, arriveRequest, upCell_listens _ hl, heard_of_full hg hf, takeWaiting, hr]
  | none => cases i <;> simp only [requestOf, reduceCtorEq] at hr <;> simp only [Instr.requestPort, reduceCtorEq] at hi

/-- Settles O44. -/
theorem waitingRestartIsCarriedOutAtScanEnd : Obligations.WaitingRestartIsCarriedOutAtScanEnd := by
  unfold Obligations.WaitingRestartIsCarriedOutAtScanEnd
  intro x s hx
  obtain ⟨hrestarted, hrestart, hwaiting, hother, hreply, hlost, htouch⟩ := answered_fields x s
  refine ⟨fun he => ?_, fun he hb hw => ?_, fun he hb hw => ?_, fun rest i q u he hw hi hl hg hf hexec => ?_⟩
  · show Host.Outcome.next (deferredRestart s) = _
    rw [deferredRestart, hx]
    exact congrArg Host.Outcome.next (if_neg (by rw [he]; exact nofun))
  · rw [exec_restartAtScanEnd hx he, hw, List.foldl_nil, afterRestart_of_no_blanks hb]
    exact ⟨_, rfl, hrestarted, hrestart, hwaiting, hother, hreply, hlost⟩
  · rw [exec_restartAtScanEnd hx he, hw, List.foldl_nil, afterRestart]
    refine ⟨_, rfl, ?_⟩
    generalize answered x s = v at *
    obtain ⟨hrec, himages, -, hlive, -, hhold, hnumber, hblank, -, hcounts, hempty, habsent, -⟩ := hrestarted
    have hblanked := blanked_blankRestarts (s := v) hb (by rw [hrec])
    generalize blankRestarts x.blanks v = w at *
    have hstarted := hblanked.started
    obtain ⟨hengine, hscan⟩ := beginNext_engine w
    have hlast := touches_beginNext (.refl [.d, .engine, .query] w) (by simp)
    have hjust := fun sc => scanJustStarted_beginNext (sc := sc) hstarted
    generalize beginNext w = t at *
    have hvt : Touches [.drift, .level, .causes, .engine, .d, .query] v t := (hblanked.rest.mono (by simp)).then hlast (by simp)
    have hup : ∀ p, t.up p = v.up p := fun p => hvt (.up p) (by simp)
    have htile : ∀ k, t.tile k = v.tile k := State.tile_of_tiles (hvt .tiles (by simp))
    have hwe := hblanked.engine
    obtain ⟨sc, hsc⟩ := Option.isSome_iff_exists.mp (hscan.trans (by rw [hwe]; rfl))
    refine ⟨(hvt .restart (by simp)).trans hrestart, (hvt .waiting (by simp)).trans hwaiting, ⟨sc, hsc, ?_⟩, ?_, ?_, ?_, ?_,
      fun k => ?_, (hvt .receiver (by simp)).trans hrec, fun k => ?_, fun k hk => ?_, fun k hk => ?_, ?_, ?_, ?_, ?_⟩
    · rw [(hjust sc hsc).1.2.2.2.1, hengine, hwe]
      exact hblank
    · rw [hengine, hwe]
    · rw [hengine, hwe]
      exact congrArg (· + BitVec.ofNat 16 x.blanks) hnumber
    · rw [hengine, hwe]
      exact hlive
    · rw [hengine, hwe]
      exact hhold
    · rw [show t.counts = v.counts from hvt .counts (by simp)]
      exact hcounts k
    · rw [show t.shown = v.shown from hvt .shown (by simp), show t.incoming = v.incoming from hvt .incoming (by simp)]
      exact himages k
    · rw [htile]
      exact hempty k hk
    · rw [htile]
      exact habsent k hk
    · rw [hup]
      exact hother
    · rw [hup]
      exact hreply
    · rw [hup]
      exact hlost
    · have hall : Touches (.waiting :: .up x.port :: [.d, .selector, .shown, .incoming, .receiver, .engine, .counts, .tiles,
          .query, .load, .drift, .level, .restart, .causes]) s t := (htouch.mono (by simp)).then hvt (by simp)
      intro f hf
      by_cases hfw : f = .waiting
      · rw [hfw]
        exact ((hvt .waiting (by simp)).trans hwaiting).trans hw.symm
      · exact hall f (fun hm => (List.mem_cons.mp hm).elim hfw hf)
  · have hsame : afterRestart x (s.withWaiting rest) = afterRestart x s := rfl
    rw [exec_restartAtScanEnd (x := x) (by simpa using hx) he, hsame] at hexec
    have hu : rest.foldl takeWaiting (afterRestart x s) = u := Host.Outcome.next.inj hexec
    have hlink := (afterRestart_sameLink x q s).trans (foldl_takeWaiting_sameLink rest q _)
    rw [hu] at hlink
    rw [exec_restartAtScanEnd hx he, hw, List.foldl_append, List.foldl_cons, List.foldl_nil, hu]
    have hlistens : u.listens q := ⟨hlink.lost.trans hl.1, fun hdown => hl.2 (hlink.down.mp hdown)⟩
    exact (exec_of_full hi hlistens (hlink.goodRun.trans hg) (hlink.failedRun.trans hf)).symm

end Sys2Proof.Machine
end

section
/-! PROOFS. The scan end (R36, R45, R54, R55, R145): O22. -/

namespace Sys2Proof.Machine

variable {s t u v w : State}

/-! ## The limit counts -/

/-- R55: the count a scan leaves for a slot. -/
def scanCount (sc : Scan) (k : SlotId) : Nat :=
  if (sc.binding.slots.get k).sent.isSome then min 65535 (sc.running.get k) else 0

theorem completeCount_eq (sc : Scan) (k : SlotId) (s : State) : completeCount sc k s =
    if sc.binding.limitThreshold < scanCount sc k then
      raise .pixelLimit (some k) (s.withCounts (s.counts.set k ⟨scanCount sc k, max (s.counts.get k).peak (scanCount sc k)⟩))
    else s.withCounts (s.counts.set k ⟨scanCount sc k, max (s.counts.get k).peak (scanCount sc k)⟩) := rfl

theorem completeCount_counts (sc : Scan) (k : SlotId) (s : State) : (completeCount sc k s).counts =
    s.counts.set k ⟨scanCount sc k, max (s.counts.get k).peak (scanCount sc k)⟩ := by
  rw [completeCount_eq]
  split <;> simp [raise]

/-- R55: the counts of every slot at a scan end, and the cause of those above the bound threshold. -/
theorem completeCounts_spec {sc : Scan} (hsc : s.engine.scan = some sc) (k : SlotId) :
    (completeCounts s).counts.get k = ⟨scanCount sc k, max (s.counts.get k).peak (scanCount sc k)⟩ ∧
    (sc.binding.limitThreshold < scanCount sc k →
      ((completeCounts s).causes.get Cause.pixelLimit.number).pending = true) := by
  have hforSlots : completeCounts s = forSlots (completeCount sc) s := by rw [completeCounts, hsc]
  rw [hforSlots]
  refine forSlots_each (Pre := fun k u => u.counts.get k = s.counts.get k)
    (Post := fun k u => u.counts.get k = ⟨scanCount sc k, max (s.counts.get k).peak (scanCount sc k)⟩ ∧
      (sc.binding.limitThreshold < scanCount sc k → (u.causes.get Cause.pixelLimit.number).pending = true))
    ?_ ?_ ?_ (fun _ => rfl) k
  · intro k u hu
    refine ⟨by rw [completeCount_counts, Table.get_set_self, hu], fun hlt => ?_⟩
    rw [completeCount_eq, if_pos hlt]
    exact raise_pending _ _ _
  · intro j k u hne hu
    rw [completeCount_counts, Table.get_set_of_ne _ _ hne, hu]
  · rintro j k u hne ⟨hcounts, hover⟩
    refine ⟨by rw [completeCount_counts, Table.get_set_of_ne _ _ hne, hcounts], fun hlt => ?_⟩
    exact Raised.pending (raised_completeCount (cs := [.pixelLimit]) sc j .refl (by simp)) (hover hlt)

/-! ## The divider and the choice -/

/-- The query unit once the divider has counted a scan end (R145). -/
def QueryUnit.counted (q : QueryUnit) (limit : Int) : QueryUnit :=
  if limit ≤ ((q.divider + 1 : Nat) : Int) then { q with divider := 0, roundDue := true }
  else { q with divider := q.divider + 1 }

theorem countScanEnd_eq (s : State) (h : 0 ≤ s.setting 7) : countScanEnd s = s.withQuery (s.query.counted (s.setting 7)) := by
  have hle : s.settingNat 7 ≤ s.query.divider + 1 ↔ s.setting 7 ≤ ((s.query.divider + 1 : Nat) : Int) := by
    rw [State.settingNat]
    omega
  unfold countScanEnd QueryUnit.counted
  simp only [hle]
  split <;> rfl

/-- A choice keeps the divider. -/
theorem chooseQuery_divider (senses : Bool) (s : State) : (chooseQuery senses s).query.divider = s.query.divider := by
  unfold chooseQuery chooseSense handOver
  (repeat' split) <;> simp

/-- A choice leaves the outstanding query or one that waits for the transmitter. -/
theorem chooseQuery_outstanding {senses : Bool} {q : Query} (h : (chooseQuery senses s).query.outstanding = some q) :
    s.query.outstanding = some q ∨ q.phase = .waiting := by
  cases ho : s.query.outstanding with
  | none => exact .inr (outstanding_chooseQuery ho h).2.1
  | some r =>
    rw [chooseQuery, if_pos (by simp [ho])] at h
    exact .inl (ho.symm.trans h)

/-! ## What follows the scan -/

/-- What the scan end does to the engine: a READY frame is swapped in and a scan starts, or the engine is IDLE (R45). -/
structure AfterScan (v u : State) : Prop where
  number : u.engine.number = v.engine.number + (if v.receiver.ready then 1 else 0)
  blank : u.engine.blank = v.engine.blank
  deferred : u.engine.deferredBlanks = v.engine.deferredBlanks
  receiver : u.receiver = { v.receiver with ready := false }
  idle : v.receiver.ready = false → Touches [.engine] v u ∧
    u.engine = { v.engine with scan := none, repeatStart := some v.clock }
  begun : v.receiver.ready = true → started u ∧ u.engine.repeatStart = none ∧ u.engine.display = .live ∧
    u.engine.holdStart = v.clock ∧ ∀ k, u.shown.get k = if (v.plans.get k).isCanvas then v.incoming.get k else v.shown.get k
  rest : Touches [.shown, .incoming, .receiver, .engine, .drift, .level, .causes] v u

theorem afterScan_spec (v : State) : AfterScan v (afterScan v) := by
  have ha : Touches [.engine] v (abortScan v) := touches_abortScan (.refl _ v) (by simp)
  have hrec : (abortScan v).receiver = v.receiver := ha .receiver (by simp)
  cases hready : v.receiver.ready with
  | false =>
    have h : afterScan v = v.withEngine { v.engine with scan := none, repeatStart := some v.clock } := by
      unfold afterScan
      dsimp only
      rw [hrec, hready]
      rfl
    rw [h]
    refine ⟨by simp [hready], by simp, by simp, ?_, fun _ => ⟨touches_withEngine _ (.refl _ v) (by simp), by simp⟩,
      fun hn => (nomatch hready.symm.trans hn), touches_withEngine _ (.refl _ v) (by simp)⟩
    simp only [State.withEngine_fields]
    rw [← hready]
  | true =>
    have h : afterScan v = startScan (abortScan v) := by
      unfold afterScan
      dsimp only
      rw [hrec, hready]
      rfl
    obtain ⟨hnumber, hrepeat, hblank, hdeferred⟩ := startScan_engine_fields (abortScan v)
    obtain ⟨hlive, hhold, hshown⟩ := startScan_of_ready (s := abortScan v) (by rw [hrec, hready])
    have hscope := startScan_scope (abortScan v)
    have hstarted := started_startScan (abortScan v)
    have hreceiver := startScan_receiver (abortScan v)
    rw [h]
    generalize startScan (abortScan v) = u at *
    refine ⟨by rw [hnumber, hready]; simp [abortScan], by rw [hblank]; simp [abortScan], by rw [hdeferred]; simp [abortScan],
      by rw [hreceiver, hrec], fun hn => (nomatch hready.symm.trans hn), fun _ => ⟨hstarted, hrepeat, hlive, ?_, fun k => ?_⟩,
      (ha.mono (by simp)).trans hscope⟩
    · rw [hhold]
      simp [abortScan]
    · rw [hshown]
      simp [abortScan]

theorem takeDeferredBlanks_of_none (h : u.engine.deferredBlanks = 0) : takeDeferredBlanks u = u := by
  rw [takeDeferredBlanks, h]
  have hsame : ({ u.engine with deferredBlanks := 0 } : Engine) = u.engine := by rw [← h]
  rw [hsame]
  rfl

/-- R45, log 9: the BLANKn assertions kept during the TILE-SHOW. -/
theorem takeDeferredBlanks_spec (h : 0 < u.engine.deferredBlanks) (hready : u.receiver.ready = false) :
    Blanked u.engine.deferredBlanks (u.withEngine { u.engine with deferredBlanks := 0 }) (takeDeferredBlanks u) :=
  blanked_blankRestarts h (by simpa using hready)

/-- The cell of a query that a cell boundary begins. -/
theorem beginNext_tx_of_new {q : Query} (htx : u.d.tx = none) (hr : u.restart = none)
    (hq : (beginNext u).query.outstanding = some q) (hnew : u.query.outstanding ≠ some q) :
    (beginNext u).d.tx = some ⟨if q.kind = .probe then 0x42 else 0x43, q.tag, [BitVec.ofNat 8 q.slot.val]⟩ := by
  cases ho : u.query.outstanding with
  | none =>
    rw [beginNext_query, QueryUnit.begun_of_not_waiting (fun r hr => nomatch ho.symm.trans hr)] at hq
    exact absurd hq hnew
  | some r =>
    by_cases hw : r.phase = .waiting
    · rw [beginNext_of_query htx hr ho hw] at hq ⊢
      obtain rfl : ({ r with phase := .sending } : Query) = q := by simpa [transmit] using hq
      cases hk : r.kind <;> simp [transmit, queryCell, hk, kindProbe, kindSenseRequest, byte1]
    · rw [beginNext_query, QueryUnit.begun_of_not_waiting] at hq
      · exact absurd hq hnew
      · intro r' hr'
        obtain rfl := Option.some.inj (ho.symm.trans hr')
        exact hw

/-! ## The scan end -/

/-- The state of a scan end once the counts are complete and the next query is chosen (R55, R63, R145). -/
def countedAndChosen (s : State) : State := chooseQuery true (countScanEnd (completeCounts (s.withD { s.d with tx := none })))

theorem exec_scanEnd {c : Cell} (hc : s.d.tx = some c) (hk : c.kind = 0x41) : exec .scanEnd s =
    .next (beginNext (markScanEnded (takeDeferredBlanks (afterScan (countedAndChosen s))))) :=
  congrArg Host.Outcome.next (if_pos (showBegun_eq_true hc hk))

/-- What the first half of a scan end leaves. -/
structure CountedAndChosen (sc : Scan) (s v : State) : Prop where
  counts : ∀ k, v.counts.get k = ⟨scanCount sc k, max (s.counts.get k).peak (scanCount sc k)⟩ ∧
    (sc.binding.limitThreshold < scanCount sc k → (v.causes.get Cause.pixelLimit.number).pending = true)
  d : v.d = { s.d with tx := none }
  divider : v.query.divider = (s.query.counted (s.setting 7)).divider
  choice : ∀ phase, (∀ q, s.query.outstanding = some q → q.phase ≠ .waiting) →
    choosesNext true phase (s.withQuery (s.query.counted (s.setting 7))) (v.query.begun phase)
  kept : s.query.outstanding.isSome = true → v.query = s.query.counted (s.setting 7)
  outstanding : ∀ q, v.query.outstanding = some q → s.query.outstanding = some q ∨ q.phase = .waiting
  raised : Raised [.pixelLimit] s.causes v.causes
  rest : Touches [.d, .query, .counts, .causes] s v

theorem begun_divider (q : QueryUnit) (phase : QueryPhase) : (q.begun phase).divider = q.divider := by
  unfold QueryUnit.begun
  (repeat' split) <;> rfl

theorem counted_outstanding (q : QueryUnit) (limit : Int) : (q.counted limit).outstanding = q.outstanding := by
  unfold QueryUnit.counted
  split <;> rfl

theorem countedAndChosen_spec {sc : Scan} (hsc : s.engine.scan = some sc) (hset : 0 ≤ s.setting 7) :
    CountedAndChosen sc s (countedAndChosen s) := by
  unfold countedAndChosen
  have hraised : Raised [.pixelLimit] s.causes (completeCounts (s.withD { s.d with tx := none })).causes := by simp
  have hcounts := completeCounts_spec (s := s.withD { s.d with tx := none }) (sc := sc) (by simpa using hsc)
  have hx : Touches [.d, .counts, .causes] s (completeCounts (s.withD { s.d with tx := none })) := by simp
  have hxd : (completeCounts (s.withD { s.d with tx := none })).d = { s.d with tx := none } :=
    (touches_completeCounts (.refl [.counts, .causes] (s.withD { s.d with tx := none })) (by simp) .d (by simp)).trans (by simp)
  have hpeak : (s.withD { s.d with tx := none }).counts = s.counts := by simp
  rw [hpeak] at hcounts
  generalize completeCounts (s.withD { s.d with tx := none }) = x at *
  have hxset : x.setting 7 = s.setting 7 := congrArg (fun a : Table Int 17 => a.get 7) (hx .settings (by simp))
  have hxquery : x.query = s.query := hx .query (by simp)
  rw [countScanEnd_eq x (by rw [hxset]; exact hset), hxset, hxquery]
  generalize hy : x.withQuery (s.query.counted (s.setting 7)) = y
  have hxy : Touches [.query] x y := hy ▸ touches_withQuery _ (.refl _ x) (by simp)
  have hyquery : y.query = s.query.counted (s.setting 7) := by rw [← hy]; simp
  have hv := chooseQuery_same true y
  have hsy : Touches [.d, .query, .counts, .causes] s y := (hx.mono (by simp)).then hxy (by simp)
  refine ⟨fun k => ?_, (hv .d (by simp)).trans ((hxy .d (by simp)).trans hxd), by rw [chooseQuery_divider, hyquery],
    fun phase hw => ?_, fun ho => ?_, fun q hq => ?_, ?_, hsy.then hv (by simp)⟩
  · have hvc : (chooseQuery true y).counts = x.counts := (hv .counts (by simp)).trans (hxy .counts (by simp))
    have hvk : (chooseQuery true y).causes = x.causes := (hv .causes (by simp)).trans (hxy .causes (by simp))
    rw [hvc, hvk]
    exact hcounts k
  · have hyd : y.d.aligned = s.d.aligned := by rw [show y.d = x.d from hxy .d (by simp), hxd]
    refine choosesNext_congr ?_ ?_ ?_ ?_ ?_ (choosesNext_chooseQuery (s := y) true phase ?_)
    · simp [hyd]
    · simpa using (hsy .tiles (by simp)).symm
    · simpa using (hsy .clock (by simp)).symm
    · simpa using (hsy .settings (by simp)).symm
    · simp [hyquery]
    · rw [hyquery, counted_outstanding]
      exact hw
  · rw [chooseQuery, if_pos, hyquery]
    rw [hyquery, counted_outstanding, ho]
    simp
  · have := chooseQuery_outstanding hq
    rwa [hyquery, counted_outstanding] at this
  · rw [show (chooseQuery true y).causes = x.causes from (hv .causes (by simp)).trans (hxy .causes (by simp))]
    exact hraised

/-- What a scan end leaves of the engine, the receiver and the images before the next cell begins. -/
structure EngineAtEnd (s m : State) : Prop where
  number : m.engine.number =
    s.engine.number + BitVec.ofNat 16 s.engine.deferredBlanks + (if s.receiver.ready then 1 else 0)
  deferred : m.engine.deferredBlanks = 0
  blank : m.engine.blank = s.engine.blank
  receiver : m.receiver = { s.receiver with ready := false }
  idle : s.engine.deferredBlanks = 0 → s.receiver.ready = false → m.engine.scan = none ∧
    m.engine.repeatStart = some s.clock ∧ m.drift = s.drift ∧ m.level = s.level
  begun : 0 < s.engine.deferredBlanks ∨ s.receiver.ready = true → started m ∧ m.engine.repeatStart = none
  live : s.receiver.ready = true → m.engine.display = .live ∧ m.engine.holdStart = s.clock ∧
    ∀ k, m.shown.get k = if (s.plans.get k).isCanvas then s.incoming.get k else s.shown.get k
  still : s.receiver.ready = false → m.engine.display = s.engine.display ∧ m.engine.holdStart = s.engine.holdStart ∧
    m.shown = s.shown ∧ m.incoming = s.incoming

/-- A restart mark, or its absence, is no part of what a scan is started from. -/
theorem started_markScanEnded (h : started s) : started (markScanEnded s) :=
  started_of_same (by constructor <;> simp [markScanEnded]) (by simp [markScanEnded]) (by simp [markScanEnded])
    (by simp [markScanEnded]) (by simp [markScanEnded]) h

theorem AfterScan.still (h : AfterScan v u) (hready : v.receiver.ready = false) :
    u.engine.display = v.engine.display ∧ u.engine.holdStart = v.engine.holdStart ∧ u.shown = v.shown ∧
    u.incoming = v.incoming := by
  obtain ⟨ht, he⟩ := h.idle hready
  exact ⟨by rw [he], by rw [he], ht .shown (by simp), ht .incoming (by simp)⟩

/-- Without an assertion to take, a scan end leaves what follows the scan. -/
theorem engineAtEnd_of_no_blanks (h : AfterScan v u) (hn : v.engine.deferredBlanks = 0) :
    EngineAtEnd v (markScanEnded (takeDeferredBlanks u)) := by
  have hu : u.engine.deferredBlanks = 0 := h.deferred.trans hn
  have hm : Touches [.restart] u (markScanEnded u) := touches_markScanEnded (.refl _ u) (by simp)
  have hmark := started_markScanEnded (s := u)
  rw [takeDeferredBlanks_of_none hu]
  generalize markScanEnded u = m at *
  have hengine : m.engine = u.engine := hm .engine (by simp)
  have hshown : m.shown = u.shown := hm .shown (by simp)
  refine ⟨by rw [hengine, h.number, hn]; simp, by rw [hengine, hu], by rw [hengine, h.blank],
    (hm .receiver (by simp)).trans h.receiver, fun _ hready => ?_, fun hbegun => ?_, fun hready => ?_, fun hready => ?_⟩
  · obtain ⟨ht, he⟩ := h.idle hready
    rw [hengine, he]
    exact ⟨rfl, rfl, (hm .drift (by simp)).trans (ht .drift (by simp)), (hm .level (by simp)).trans (ht .level (by simp))⟩
  · have hready := hbegun.resolve_left (by omega)
    obtain ⟨hstarted, hrepeat, -⟩ := h.begun hready
    exact ⟨hmark hstarted, by rw [hengine, hrepeat]⟩
  · obtain ⟨-, -, hlive⟩ := h.begun hready
    rw [hengine, hshown]
    exact hlive
  · rw [hengine, hshown, show m.incoming = u.incoming from hm .incoming (by simp)]
    exact h.still hready

/-- With assertions to take, a scan end leaves the last of the scans they start. -/
theorem engineAtEnd_of_blanks (h : AfterScan v u) (hn : 0 < v.engine.deferredBlanks) :
    EngineAtEnd v (markScanEnded (takeDeferredBlanks u)) := by
  have hb := takeDeferredBlanks_spec (u := u) (by rw [h.deferred]; exact hn) (by rw [h.receiver])
  have hm : Touches [.restart] (takeDeferredBlanks u) (markScanEnded (takeDeferredBlanks u)) :=
    touches_markScanEnded (.refl _ _) (by simp)
  have hmark := started_markScanEnded hb.started
  generalize takeDeferredBlanks u = a at *
  generalize markScanEnded a = m at *
  have hum : Touches [.engine, .drift, .level, .causes, .restart] u m :=
    ((touches_withEngine _ (.refl _ u) (by simp)).trans (hb.rest.mono (by simp))).then hm (by simp)
  have hengine : m.engine = a.engine := hm .engine (by simp)
  have hshown : m.shown = u.shown := hum .shown (by simp)
  have hfields := hb.engine
  simp only [State.withEngine_fields, h.deferred] at hfields
  refine ⟨?_, by rw [hengine, hfields], by rw [hengine, hfields]; exact h.blank, (hum .receiver (by simp)).trans h.receiver,
    fun h0 => by omega, fun _ => ⟨hmark, by rw [hengine, hfields]⟩, fun hready => ?_, fun hready => ?_⟩
  · rw [hengine, hfields]
    show u.engine.number + _ = _
    rw [h.number, add_right_comm]
  · obtain ⟨-, -, hlive⟩ := h.begun hready
    rw [hengine, hfields, hshown]
    exact hlive
  · rw [hengine, hfields, hshown, show m.incoming = u.incoming from hum .incoming (by simp)]
    exact h.still hready

theorem engineAtEnd (h : AfterScan v u) : EngineAtEnd v (markScanEnded (takeDeferredBlanks u)) :=
  (Nat.eq_zero_or_pos v.engine.deferredBlanks).elim (engineAtEnd_of_no_blanks h) (engineAtEnd_of_blanks h)

/-- The first half of a scan end changes nothing that its second half reads. -/
theorem EngineAtEnd.of_same {m : State} (h : EngineAtEnd v m) (hv : Touches [.d, .query, .counts, .causes] s v) :
    EngineAtEnd s m := by
  obtain ⟨hnumber, hdeferred, hblank, hready, hidle, hbegun, hlive, hstill⟩ := h
  have hengine : v.engine = s.engine := hv .engine (by simp)
  have hreceiver : v.receiver = s.receiver := hv .receiver (by simp)
  have hclock : v.clock = s.clock := hv .clock (by simp)
  have hplans : v.plans = s.plans := hv .plans (by simp)
  have hincoming : v.incoming = s.incoming := hv .incoming (by simp)
  have hshown : v.shown = s.shown := hv .shown (by simp)
  rw [hengine, hreceiver] at hnumber hbegun
  rw [hengine] at hblank
  rw [hreceiver] at hready
  rw [hreceiver, hengine, hshown, hincoming] at hstill
  rw [hreceiver, hclock, hplans, hincoming, hshown] at hlive
  rw [hengine, hreceiver, hclock, show v.drift = s.drift from hv .drift (by simp),
    show v.level = s.level from hv .level (by simp)] at hidle
  exact ⟨hnumber, hdeferred, hblank, hready, hidle, hbegun, hlive, hstill⟩

/-- R64, log 10: the phase of the query chosen at a scan end. -/
theorem nextPhase_at_end (htx : u.d.tx = none) (hr : u.restart = s.restart.map fun x => { x with scanEnded := true }) :
    nextPhase u = if s.restart = none then .sending else .waiting := by
  rw [nextPhase_eq, htx, restartDue, hr]
  cases s.restart <;> rfl

/-- Settles O22. -/
theorem scanEndCompletesScan : Obligations.ScanEndCompletesScan := by
  unfold Obligations.ScanEndCompletesScan
  intro c sc s hc hk hsc hset
  rw [exec_scanEnd hc hk]
  have hv := countedAndChosen_spec hsc hset
  generalize countedAndChosen s = v at *
  have hend := (engineAtEnd (afterScan_spec v)).of_same hv.rest
  have hraised : Raised [.levelOver] v.causes (markScanEnded (takeDeferredBlanks (afterScan v))).causes := by
    simp [markScanEnded, takeDeferredBlanks]
  have hm : Touches [.shown, .incoming, .receiver, .engine, .drift, .level, .causes, .restart] v
      (markScanEnded (takeDeferredBlanks (afterScan v))) :=
    touches_markScanEnded (touches_takeDeferredBlanks (touches_afterScan (.refl _ v) (by simp)) (by simp)) (by simp)
  have hrestart : (markScanEnded (takeDeferredBlanks (afterScan v))).restart =
      v.restart.map fun x => { x with scanEnded := true } := by
    have h : (takeDeferredBlanks (afterScan v)).restart = v.restart := touches_takeDeferredBlanks (touches_afterScan
      (.refl [.shown, .incoming, .receiver, .engine, .drift, .level, .causes] v) (by simp)) (by simp) .restart (by simp)
    simp [markScanEnded, h]
  generalize markScanEnded (takeDeferredBlanks (afterScan v)) = m at *
  have hvr : v.restart = s.restart := hv.rest .restart (by simp)
  obtain ⟨hnumber, hdeferred, hblank, hready, hidle, hbegun, hlive, hstill⟩ := hend
  rw [hvr] at hrestart
  have hmd : m.d = { s.d with tx := none } := (hm .d (by simp)).trans hv.d
  have hmtx : m.d.tx = none := by rw [hmd]
  have hmquery : m.query = v.query := hm .query (by simp)
  have hphase := nextPhase_at_end hmtx hrestart
  have hbquery := beginNext_query m
  rw [hphase, hmquery] at hbquery
  obtain ⟨hbe, hbscan⟩ := beginNext_engine m
  obtain ⟨hbd, -⟩ := begins_beginNext m
  have hcell := fun q => beginNext_tx_of_new (u := m) (q := q) hmtx
  have hstart := fun (h : started m) sc' => scanJustStarted_beginNext (sc := sc') h
  have hb := touches_beginNext (.refl [.d, .engine, .query] m) (by simp)
  have hbc := causes_beginNext m
  generalize beginNext m = t at *
  have hcausesVT : Raised [.levelOver] v.causes t.causes := by rw [hbc]; exact hraised
  have hvt : Touches [.shown, .incoming, .receiver, .engine, .drift, .level, .causes, .restart, .d, .query] v t :=
    (hm.mono (by simp)).then hb (by simp)
  have htcounts : t.counts = v.counts := hvt .counts (by simp)
  have htshown : t.shown = m.shown := hb .shown (by simp)
  have htincoming : t.incoming = m.incoming := hb .incoming (by simp)
  have htreceiver : t.receiver = { s.receiver with ready := false } := (hb .receiver (by simp)).trans hready
  have htrestart : t.restart = s.restart.map fun x => { x with scanEnded := true } := (hb .restart (by simp)).trans hrestart
  refine ⟨t, rfl, fun k => ?_, ?_, (hv.rest.mono (by simp)).then hvt (by simp), ?_, ?_, htrestart, by rw [hbe]; exact hdeferred,
    ⟨fun hw => ?_, fun q hq hw hr => ?_, fun q hr hq hne => ?_⟩, fun hn hr => ?_, fun hn hr => ?_, fun sc' hsc' => ?_, fun hn => ?_⟩
  · obtain ⟨hcount, hover⟩ := hv.counts k
    rw [htcounts, hcount]
    exact ⟨rfl, rfl, fun hlt => hcausesVT.pending (hover hlt)⟩
  · rw [hbquery, begun_divider, hv.divider]
    unfold QueryUnit.counted
    simp only [Nat.cast_add, Nat.cast_one]
    split <;> rfl
  · exact ((hv.raised.mono (by simp)).trans (hcausesVT.mono (by simp))).raisesOnly
  · rw [hbd, hmd]
  · rw [hbquery]
    exact hv.choice _ hw
  · have hkept := hv.kept (by rw [hq]; rfl)
    rw [hbquery, if_pos hr, hkept, QueryUnit.begun_of_waiting ((counted_outstanding _ _).trans hq) hw]
    rfl
  · refine hcell q (by rw [hrestart, hr]; rfl) hq fun hmq => ?_
    rw [hmquery] at hmq
    rcases hv.outstanding q hmq with ho | hw
    · exact hne ho
    · rw [hbquery, if_pos hr, QueryUnit.begun_of_waiting hmq hw] at hq
      have hphases := congrArg Query.phase (Option.some.inj hq)
      rw [hw] at hphases
      exact nomatch hphases
  · obtain ⟨hscan, hrepeat, hd, hl⟩ := hidle hn hr
    obtain ⟨hdisplay, hhold, hsh, hin⟩ := hstill hr
    have hnoscan : t.engine.scan = none := by
      rw [hscan] at hbscan
      simpa using hbscan
    refine ⟨hnoscan, by rw [hbe]; exact hrepeat, ?_, by rw [hbe]; exact hdisplay, by rw [hbe]; exact hhold,
      by rw [hbe]; exact hblank, htshown.trans hsh, htincoming.trans hin, ?_, (hb .drift (by simp)).trans hd,
      (hb .level (by simp)).trans hl⟩
    · rw [hbe]
      exact hnumber.trans (by simp [hn, hr])
    · rw [htreceiver, ← hr]
  · obtain ⟨hstarted, -⟩ := hbegun (.inr hr)
    obtain ⟨hdisplay, hhold, hsh⟩ := hlive hr
    refine ⟨hbscan.trans (by rw [hstarted]; rfl), ?_, by rw [hbe]; exact hdisplay, by rw [hbe]; exact hhold,
      by rw [htreceiver], fun k => by rw [htshown]; exact hsh k⟩
    rw [hbe]
    exact hnumber.trans (by simp [hn, hr])
  · have hbegins : 0 < s.engine.deferredBlanks ∨ s.receiver.ready = true := by
      by_contra hno
      simp only [not_or, not_lt, nonpos_iff_eq_zero, Bool.not_eq_true] at hno
      obtain ⟨hscan, -⟩ := hidle hno.1 hno.2
      rw [hscan, hsc'] at hbscan
      exact nomatch hbscan
    have hjust := hstart (hbegun hbegins).1 sc' hsc'
    rwa [eq_true hmtx] at hjust
  · obtain ⟨hstarted, hrepeat⟩ := hbegun (.inl hn)
    obtain ⟨sc', hsc'⟩ := Option.isSome_iff_exists.mp (hbscan.trans (by rw [hstarted]; rfl))
    have htblank : t.engine.blank = s.engine.blank := by rw [hbe]; exact hblank
    refine ⟨by rw [hbe]; exact hrepeat, ⟨sc', hsc', ?_⟩, htblank, by rw [htreceiver], by rw [hbe]; exact hnumber,
      fun hr => ?_, fun hr => ?_⟩
    · exact (hstart hstarted sc' hsc').1.2.2.2.1.trans htblank
    · obtain ⟨hdisplay, hhold, hsh, hin⟩ := hstill hr
      exact ⟨htshown.trans hsh, htincoming.trans hin, by rw [hbe]; exact hdisplay, by rw [hbe]; exact hhold⟩
    · obtain ⟨hdisplay, hhold, hsh⟩ := hlive hr
      exact ⟨by rw [hbe]; exact hdisplay, by rw [hbe]; exact hhold, fun k => by rw [htshown]; exact hsh k⟩

end Sys2Proof.Machine
end

section
/-! PROOFS. What a write of a setting does besides storing it (R182, the table of 10.5), setting by setting. -/

namespace Sys2Proof.Machine

variable {s t u v w : State}

/-! ## The limits -/

theorem expired_of_pos {n : SettingId} (h : 1 ≤ u.setting n) (since : Nat) :
    u.expired n since = decide (u.setting n ≤ (u.clock - since : Int)) := by
  rw [Bool.eq_iff_iff, expired_eq_true_iff, decide_eq_true_iff]
  omega

/-! ## Setting 0: the preferred source -/

theorem settle_of_active_up {a : Up} (ha : u.selector.active = some a) (h : (u.up a).state = .up) : settle u =
    if sourceChoice u = some a then u.withSelector ⟨some a, none⟩
    else if u.receiving then u.withSelector ⟨some a, sourceChoice u⟩
    else switchSource (sourceChoice u) u := by
  rw [settle, ha]
  exact if_neg (not_not.mpr h)

/-- R11: the preferred source or a port that is alone UP stays active. -/
theorem settle_of_active_kept {a : Up} (ha : u.selector.active = some a) (h : (u.up a).state = .up)
    (hp : u.preferred = a ∨ (u.up u.preferred).state ≠ .up) : settle u = u.withSelector ⟨some a, none⟩ := by
  rw [settle_of_active_up ha h, if_pos]
  rcases hp with hp | hp
  · exact sourceChoice_of_preferred hp h
  · have hne : a ≠ u.preferred := fun e => hp (e ▸ h)
    rw [sourceChoice_of_not_up hp, ← eq_otherPort_of_ne hne, if_pos h]

/-- R11, R12: the preferred source, UP, takes over from the other port, at once or when the receiver is IDLE. -/
theorem settle_of_preferred_other {a : Up} (ha : u.selector.active = some a) (h : (u.up a).state = .up)
    (hne : u.preferred ≠ a) (hp : (u.up u.preferred).state = .up) : settle u =
      if u.receiving then u.withSelector ⟨some a, some u.preferred⟩ else switchSource (some u.preferred) u := by
  rw [settle_of_active_up ha h, sourceChoice_of_preferred rfl hp, if_neg fun e => hne (Option.some.inj e)]

theorem settle_of_none (ha : u.selector.active = none) (h : ∀ q, (u.up q).state ≠ .up) :
    settle u = u.withSelector ⟨none, none⟩ := by
  rw [settle, ha]
  dsimp only
  have hchoice : sourceChoice u = none := by rw [sourceChoice, if_neg (h _), if_neg (h _)]
  rw [hchoice]

/-! ## Setting 1: the source loss time -/

/-- The record of a port that has left UP for ALIGNED (R6). -/
def Upstream.leftUp (x : Upstream) : Upstream := { x with state := .aligned, completeRun := 0 }

theorem leaveUpIfStale_up (p q : Up) (s : State) : (leaveUpIfStale p s).up q =
    if p = q ∧ sourceStale s p = true then (s.up p).leftUp else s.up q := by
  unfold leaveUpIfStale
  split
  · next h => rw [State.withUp_up]; simp only [h, and_true]; rfl
  · next h => rw [if_neg fun hn => h hn.2]

theorem sourceStale_congr {p : Up} (hup : t.up p = s.up p) (hset : t.settings = s.settings) (hclock : t.clock = s.clock) :
    sourceStale t p = sourceStale s p := by
  unfold sourceStale sourceFresh
  rw [hup]
  split
  · rw [expired_congr hset hclock]
  · rfl

/-- R6, log 8: every port whose source loss time has expired leaves UP, before the selector is settled. -/
def staleLeft (s : State) : State := leaveUpIfStale .ub (leaveUpIfStale .ua s)

theorem touches_staleLeft (s : State) : Touches [.up .ua, .up .ub] s (staleLeft s) :=
  touches_leaveUpIfStale _ (touches_leaveUpIfStale _ (.refl _ s) (by simp)) (by simp)

theorem staleLeft_up (q : Up) (s : State) :
    (staleLeft s).up q = if sourceStale s q = true then (s.up q).leftUp else s.up q := by
  have hfirst : Touches [.up .ua] s (leaveUpIfStale .ua s) := touches_leaveUpIfStale _ (.refl _ s) (by simp)
  have hstale : sourceStale (leaveUpIfStale .ua s) .ub = sourceStale s .ub :=
    sourceStale_congr (hfirst (.up .ub) (by simp)) (hfirst .settings (by simp)) (hfirst .clock (by simp))
  have hub : (leaveUpIfStale .ua s).up .ub = s.up .ub := hfirst (.up .ub) (by simp)
  rw [staleLeft, leaveUpIfStale_up, hstale, hub]
  cases q with
  | ua => simp [leaveUpIfStale_up]
  | ub => simp [hub]

theorem sourceLossBoth_eq (s : State) :
    sourceLossBoth s = if sourceStale s .ua || sourceStale s .ub then settle (staleLeft s) else s := rfl

theorem sourceLossBoth_of_stale {q : Up} (h : sourceStale s q = true) : sourceLossBoth s = settle (staleLeft s) := by
  rw [sourceLossBoth_eq, if_pos]
  cases q <;> simp [h]

theorem sourceLossBoth_of_fresh (h : ∀ q, sourceStale s q = false) : sourceLossBoth s = s := by
  rw [sourceLossBoth_eq, if_neg]
  simp [h]

theorem sourceLossBoth_up (q : Up) (s : State) :
    (sourceLossBoth s).up q = if sourceStale s q = true then (s.up q).leftUp else s.up q := by
  by_cases h : ∃ p, sourceStale s p = true
  · obtain ⟨p, hp⟩ := h
    rw [sourceLossBoth_of_stale hp, ← staleLeft_up]
    exact touches_settle (.refl [.selector, .incoming, .receiver, .causes] (staleLeft s)) (by simp) (.up q) (by simp)
  · have hfresh : ∀ p, sourceStale s p = false := fun p => by
      simpa using fun hp => h ⟨p, hp⟩
    rw [sourceLossBoth_of_fresh hfresh, if_neg (by simp [hfresh])]

/-- R11, R12, R41: the active source left UP; the other port, if it stays UP, takes over. -/
theorem sourceLossBoth_of_active_stale {a : Up} (ha : s.selector.active = some a) (h : sourceStale s a = true) :
    (sourceLossBoth s).selector = ⟨if (s.up (otherPort a)).state = .up ∧ sourceStale s (otherPort a) = false then
      some (otherPort a) else none, none⟩ ∧ (sourceLossBoth s).receiver = ⟨.idle, s.receiver.ready⟩ ∧
    ((sourceLossBoth s).causes.get Cause.sourceSwitch.number).pending = true := by
  have hleft := touches_staleLeft s
  have hup := staleLeft_up (s := s)
  rw [sourceLossBoth_of_stale h]
  generalize staleLeft s = v at *
  have hactive : v.selector.active = some a := by rw [show v.selector = s.selector from hleft .selector (by simp), ha]
  have hnot : (v.up a).state ≠ .up := by
    rw [hup, if_pos h]
    exact nofun
  have hother : (v.up (otherPort a)).state = .up ↔
      (s.up (otherPort a)).state = .up ∧ sourceStale s (otherPort a) = false := by
    rw [hup]
    cases hs : sourceStale s (otherPort a) <;> simp [Upstream.leftUp]
  rw [settle_of_active_not_up hactive hnot, sourceChoice_of_not_up hnot]
  refine ⟨?_, ?_, switchSource_pending _ _⟩
  · rw [switchSource_selector]
    simp only [hother]
  · rw [switchSource_receiver, abandonFrame_receiver, show v.receiver = s.receiver from hleft .receiver (by simp)]

/-- R11: the other port left UP; the active source stays. -/
theorem sourceLossBoth_of_other_stale {a : Up} (ha : s.selector.active = some a) (hs : (s.up a).state = .up)
    (h : sourceStale s a = false) (ho : sourceStale s (otherPort a) = true) :
    (sourceLossBoth s).selector = ⟨some a, none⟩ ∧ (sourceLossBoth s).receiver = s.receiver ∧
    (sourceLossBoth s).causes = s.causes := by
  have hleft := touches_staleLeft s
  have hup := staleLeft_up (s := s)
  rw [sourceLossBoth_of_stale ho]
  generalize staleLeft s = v at *
  have hactive : v.selector.active = some a := by rw [show v.selector = s.selector from hleft .selector (by simp), ha]
  have hself : (v.up a).state = .up := by rw [hup, if_neg (by simp [h]), hs]
  have hother : (v.up (otherPort a)).state ≠ .up := by
    rw [hup, if_pos ho]
    exact nofun
  rw [settle_of_active_up hactive hself, if_pos (sourceChoice_of_up_other_not hself hother)]
  have hrec : v.receiver = s.receiver := hleft .receiver (by simp)
  have hcauses : v.causes = s.causes := hleft .causes (by simp)
  exact ⟨by simp, by simp [hrec], by simp [hcauses]⟩

/-! ## Setting 2: the frame open limit -/

/-- R5: the open frame of a port's tracker has reached its limit. -/
def frameLate (s : State) (q : Up) : Bool :=
  match (s.up q).openFrame with
  | some f => s.expired 2 f.openedAt
  | none => false

/-- R40: the frame in RECEIVING has reached its limit. -/
def frameOverdue (s : State) : Bool :=
  match s.receiver.phase with
  | .receiving _ since => s.expired 2 since
  | .idle => false

theorem trackerLimit_of (p : Up) (s : State) :
    trackerLimit p s = if frameLate s p = true then s.withUp p (s.up p).uncompleted else s := by
  unfold trackerLimit frameLate
  cases (s.up p).openFrame <;> rfl

theorem receiverLimit_of (s : State) : receiverLimit s =
    if frameOverdue s = true then carrySwitch (raise .frameLate none (abandonFrame (closeLate s))) else s := by
  unfold receiverLimit frameOverdue
  cases s.receiver.phase <;> rfl

theorem receiving_of_overdue (h : frameOverdue s = true) : s.receiving = true := by
  cases hp : s.receiver.phase with
  | receiving m since => rw [State.receiving, hp]
  | idle =>
    rw [frameOverdue, hp] at h
    exact nomatch h

/-- R5: both trackers have closed the frames that are late. -/
def lateClosed (s : State) : State := trackerLimit .ub (trackerLimit .ua s)

theorem touches_lateClosed (s : State) : Touches [.up .ua, .up .ub] s (lateClosed s) :=
  touches_trackerLimit _ (touches_trackerLimit _ (.refl _ s) (by simp)) (by simp)

theorem frameLate_congr {q : Up} (hup : t.up q = s.up q) (hset : t.settings = s.settings) (hclock : t.clock = s.clock) :
    frameLate t q = frameLate s q := by
  unfold frameLate
  rw [hup]
  split
  · rw [expired_congr hset hclock]
  · rfl

theorem frameOverdue_congr (hrec : t.receiver = s.receiver) (hset : t.settings = s.settings) (hclock : t.clock = s.clock) :
    frameOverdue t = frameOverdue s := by
  unfold frameOverdue
  rw [hrec]
  split
  · rw [expired_congr hset hclock]
  · rfl

theorem trackerLimit_up (p q : Up) (s : State) : (trackerLimit p s).up q =
    if p = q ∧ frameLate s p = true then (s.up p).uncompleted else s.up q := by
  rw [trackerLimit_of]
  split
  · next h => rw [State.withUp_up]; simp only [h, and_true]
  · next h => rw [if_neg fun hn => h hn.2]

theorem lateClosed_up (q : Up) (s : State) :
    (lateClosed s).up q = if frameLate s q = true then (s.up q).uncompleted else s.up q := by
  have hfirst : Touches [.up .ua] s (trackerLimit .ua s) := touches_trackerLimit _ (.refl _ s) (by simp)
  have hub : (trackerLimit .ua s).up .ub = s.up .ub := hfirst (.up .ub) (by simp)
  have hlate : frameLate (trackerLimit .ua s) .ub = frameLate s .ub :=
    frameLate_congr hub (hfirst .settings (by simp)) (hfirst .clock (by simp))
  rw [lateClosed, trackerLimit_up, hlate, hub]
  cases q with
  | ua => simp [trackerLimit_up]
  | ub => simp [hub]

theorem lateClosed_of_none (h : ∀ q, frameLate s q = false) : lateClosed s = s := by
  have ha : trackerLimit .ua s = s := by rw [trackerLimit_of, if_neg (by simp [h])]
  rw [lateClosed, ha, trackerLimit_of, if_neg (by simp [h])]

/-- R40: the record that `closeLate` leaves a port. -/
theorem closeLate_up (q : Up) (s : State) : (closeLate s).up q =
    if s.selector.active = some q ∧ (s.up q).openFrame.isSome = true then (s.up q).uncompleted else s.up q := by
  unfold closeLate
  split
  · next p ha =>
    simp only [ha, Option.some.injEq]
    split
    · next ho =>
      rw [State.withUp_up]
      by_cases h : p = q
      · subst h; simp [ho]
      · simp [h]
    · next ho =>
      rw [if_neg]
      rintro ⟨rfl, hq⟩
      exact ho hq
  · next ha => simp [ha]

/-- R40, R41: what an overdue frame leaves. -/
theorem receiverLimit_of_overdue (h : frameOverdue s = true) :
    (receiverLimit s).receiver = ⟨.idle, s.receiver.ready⟩ ∧ (receiverLimit s).incoming = Table.replicate 16 [] ∧
    ((receiverLimit s).causes.get Cause.frameLate.number).pending = true ∧
    (∀ q, (receiverLimit s).up q = (closeLate s).up q) ∧
    (s.selector.toSwitch = none → (receiverLimit s).selector = s.selector) ∧
    (∀ q, s.selector.toSwitch = some q → (receiverLimit s).selector = ⟨some q, none⟩ ∧
      ((receiverLimit s).causes.get Cause.sourceSwitch.number).pending = true) := by
  obtain ⟨hrec, hsel⟩ := closeLate_phase s
  have hreceiving : (closeLate s).receiving = true := by
    rw [State.receiving, hrec]
    exact receiving_of_overdue h
  rw [receiverLimit_of, if_pos h, abandonFrame_of_receiving hreceiving, hrec]
  generalize closeLate s = c at *
  generalize hx : raise .frameLate none
    ((c.withIncoming (Table.replicate 16 [])).withReceiver { s.receiver with phase := .idle }) = x
  have hidle : x.receiving = false := by
    rw [← hx]
    simp [State.receiving, raise]
  have hxsel : x.selector = s.selector := by
    rw [← hx, ← hsel]
    simp [raise]
  have hxrec : x.receiver = ⟨.idle, s.receiver.ready⟩ := by
    rw [← hx]
    simp [raise]
  have hxinc : x.incoming = Table.replicate 16 [] := by
    rw [← hx]
    simp [raise]
  have hxpending : (x.causes.get Cause.frameLate.number).pending = true := by
    rw [← hx]
    exact raise_pending _ _ _
  have hxup : ∀ q, x.up q = c.up q := fun q => by
    rw [← hx]
    cases q <;> simp [raise, State.up]
  have hlast : Touches [.selector, .causes] x (carrySwitch x) := touches_carrySwitch (.refl _ x) (by simp)
  have hraised : Raised [.sourceSwitch] x.causes (carrySwitch x).causes := raised_carrySwitch .refl (by simp)
  refine ⟨(carrySwitch_receiver x).trans hxrec, (hlast .incoming (by simp)).trans hxinc, hraised.pending hxpending,
    fun q => (hlast (.up q) (by simp)).trans (hxup q), fun hn => ?_, fun q hq => ?_⟩
  · rw [carrySwitch_of_none (by rw [hxsel, hn]), hxsel]
  · rw [carrySwitch_of_some (by rw [hxsel, hq]) hidle]
    exact ⟨by simp [raise], raise_pending _ _ _⟩

/-! ## Setting 4: the repeat interval -/

theorem repeatLimit_of_due {since : Nat} (hr : s.engine.repeatStart = some since) (hs : s.engine.scan = none)
    (he : s.expired 4 since = true) : repeatLimit s = beginNext (startScan s) := by
  rw [repeatLimit, hr]
  refine if_pos ?_
  rw [hs, he]
  rfl

theorem repeatLimit_of_not_due
    (h : ∀ since, s.engine.repeatStart = some since → s.engine.scan.isSome = true ∨ s.expired 4 since = false) :
    repeatLimit s = s := by
  unfold repeatLimit
  split
  · next since hr =>
    refine if_neg ?_
    rcases h since hr with hs | he
    · simp [Option.isNone_iff_eq_none, Option.isSome_iff_ne_none.mp hs]
    · simp [he]
  · rfl

/-- The engine after a cell boundary, from what a scan start leaves. -/
theorem beginNext_engine_of {e : Engine} (hn : v.engine.number = e.number + 1) (hr : v.engine.repeatStart = none)
    (hb : v.engine.blank = e.blank) (hd : v.engine.deferredBlanks = e.deferredBlanks) : (beginNext v).engine = { e with
    scan := (beginNext v).engine.scan
    number := e.number + 1
    repeatStart := none
    display := (beginNext v).engine.display
    holdStart := (beginNext v).engine.holdStart } := by
  have hengine := (beginNext_engine v).1
  generalize beginNext v = t at *
  have hnumber : t.engine.number = e.number + 1 := (congrArg Engine.number hengine).trans hn
  have hrepeat : t.engine.repeatStart = none := (congrArg Engine.repeatStart hengine).trans hr
  have hblank : t.engine.blank = e.blank := (congrArg Engine.blank hengine).trans hb
  have hdeferred : t.engine.deferredBlanks = e.deferredBlanks := (congrArg Engine.deferredBlanks hengine).trans hd
  rw [← hnumber, ← hrepeat, ← hblank, ← hdeferred]

/-- R46, R47: the engine a repeat scan leaves. -/
theorem repeatScan_engine (s : State) : (beginNext (startScan s)).engine = { s.engine with
    scan := (beginNext (startScan s)).engine.scan
    number := s.engine.number + 1
    repeatStart := none
    display := (beginNext (startScan s)).engine.display
    holdStart := (beginNext (startScan s)).engine.holdStart } := by
  obtain ⟨hnumber, hrepeat, hblank, hdeferred⟩ := startScan_engine_fields s
  exact beginNext_engine_of hnumber hrepeat hblank hdeferred

theorem repeatLimit_wall (s : State) : (repeatLimit s).level.wall = s.level.wall := by
  unfold repeatLimit
  split
  · split
    · have hb : (beginNext (startScan s)).level = (startScan s).level :=
        touches_beginNext (.refl [.d, .engine, .query] _) (by simp) .level (by simp)
      rw [hb, (startScan_level s).1]
    · rfl
  · rfl

/-- Only a repeat scan, which setting 4 may start, changes images or the level. -/
theorem touches_settingEffect_of_ne {ps : List Part} {n : SettingId} (hn : n.val ≠ 4) (h : Touches ps s t)
    (sub : ([.up .ua, .up .ub, .d, .selector, .incoming, .receiver, .engine, .tiles, .query, .drift, .causes] : List Part) ⊆ ps) :
    Touches ps s (settingEffect n t) := by
  simp only [List.cons_subset, List.nil_subset, and_true] at sub
  unfold settingEffect
  split
  case h_5 h4 => exact absurd h4 hn
  all_goals simp (maxDischargeDepth := 99) [h, sub]

theorem settingEffect_repeat {n : SettingId} (h : n.val = 4) (s : State) : settingEffect n s = repeatLimit s := by
  simp only [settingEffect, h]

/-- R160, R163: every effect of a setting keeps the wall level. -/
theorem settingEffect_wall (n : SettingId) (s : State) : (settingEffect n s).level.wall = s.level.wall := by
  by_cases h : n.val = 4
  · rw [settingEffect_repeat h, repeatLimit_wall]
  · exact congrArg Level.wall (touches_settingEffect_of_ne h (.refl [.up .ua, .up .ub, .d, .selector, .incoming, .receiver,
      .engine, .tiles, .query, .drift, .causes] s) (by simp) .level (by simp))

/-! ## Setting 5: the probe interval -/

theorem chooseAndBegin_of_busy (h : s.d.aligned = false ∨ s.query.outstanding.isSome = true) (htx : s.d.tx.isSome = true) :
    chooseAndBegin s = s := by
  have hchoose : chooseQuery s.engine.scan.isNone s = s := by
    rw [chooseQuery, if_pos]
    rcases h with h | h <;> simp [h]
  rw [chooseAndBegin, hchoose, beginNext, if_pos (by simp [htx])]

/-! ## Setting 6: the query timeout -/

/-- A query whose timeout has not passed, or that is not yet sent, waits on. -/
theorem queryLimit_of_not_due (kind : QueryKind)
    (h : ∀ q, s.query.outstanding = some q → ∀ since, q.phase = .sent since → s.expired 6 since = false) :
    queryLimit kind s = s := by
  unfold queryLimit
  split
  · next q hq =>
    split
    · next since hp => rw [if_neg (by simp [h q hq since hp])]
    · rfl
    · rfl
  · rfl

/-- After a choice no query is sent, so none can time out. -/
theorem queryLimit_chooseAndBegin (kind : QueryKind) (hn : v.query.outstanding = none) :
    queryLimit kind (chooseAndBegin v) = chooseAndBegin v :=
  queryLimit_of_not_due kind fun _ hq since hp => absurd hp ((outstanding_chooseAndBegin hn hq).2.1 since)

theorem queryLimits_of_probe {q : Query} {since : Nat} (hq : s.query.outstanding = some q) (hp : q.phase = .sent since)
    (hk : q.kind = .probe) (he : s.expired 6 since = true) :
    queryLimit .sense (queryLimit .probe s) = chooseAndBegin (probeTimedOut q.slot since (dropQuery s)) := by
  rw [queryLimit_of_sent .probe hq hp, if_pos ⟨hk, he⟩]
  exact queryLimit_chooseAndBegin .sense rfl

theorem queryLimits_of_sense {q : Query} {since : Nat} (hq : s.query.outstanding = some q) (hp : q.phase = .sent since)
    (hk : q.kind = .sense) (he : s.expired 6 since = true) :
    queryLimit .sense (queryLimit .probe s) = chooseAndBegin (senseTimedOut q.slot (dropQuery s)) := by
  have hfirst : queryLimit .probe s = s := by
    rw [queryLimit_of_sent .probe hq hp, if_neg fun hn => by rw [hk] at hn; exact nomatch hn.1]
  rw [hfirst, queryLimit_of_sent .sense hq hp, if_pos ⟨hk, he⟩]

/-- Slots that agree everywhere but in one entry. -/
theorem tiles_eq_set {k : SlotId} {x : Tile} (hk : t.tile k = x) (hne : ∀ j, j ≠ k → t.tile j = s.tile j) :
    t.tiles = s.tiles.set k x := by
  refine Table.ext_get fun j => ?_
  rw [Table.get_set]
  split
  · next h => rw [← h]; exact hk
  · next h => exact hne j (Ne.symm h)

/-! ## Settings 12 to 14: the fallback coefficients -/

/-- R142: the targets of every UNKNOWN slot, computed afresh. -/
theorem computeUnknownTargets_spec (k : SlotId) (s : State) :
    ((s.tile k).presence = .unknown → retargeted k (s.drift.get k) (computeUnknownTargets s)) ∧
    ((s.tile k).presence ≠ .unknown → (computeUnknownTargets s).drift.get k = s.drift.get k) := by
  have hstep : ∀ (j : SlotId) (u : State), Touches [.drift, .causes] u
      (if (u.tile j).presence = .unknown then computeTargets j u else u) := fun j u => by
    split
    · exact touches_computeTargets_self j u
    · exact .refl _ u
  have hother : ∀ (j k : SlotId) (u : State), j ≠ k →
      (if (u.tile j).presence = .unknown then computeTargets j u else u).drift.get k = u.drift.get k := fun j k u hne => by
    split
    · rw [computeTargets_drift, if_neg fun h => hne h.1]
    · rfl
  refine forSlots_each (Pre := fun k u => u.tile k = s.tile k ∧ u.drift.get k = s.drift.get k)
    (Post := fun k u => ((s.tile k).presence = .unknown → retargeted k (s.drift.get k) u) ∧
      ((s.tile k).presence ≠ .unknown → u.drift.get k = s.drift.get k)) ?_ ?_ ?_ (fun _ => ⟨rfl, rfl⟩) k
  · rintro k u ⟨htile, hdrift⟩
    rw [← htile, ← hdrift]
    refine ⟨fun h => ?_, fun h => by rw [if_neg h]⟩
    rw [if_pos h]
    exact retargeted_computeTargets (by rw [h]; rfl)
  · rintro j k u hne ⟨htile, hdrift⟩
    exact ⟨(State.tile_of_tiles (hstep j u .tiles (by simp)) k).trans htile, (hother j k u hne).trans hdrift⟩
  · rintro j k u hne ⟨hunknown, hkept⟩
    refine ⟨fun h => ?_, fun h => (hother j k u hne).trans (hkept h)⟩
    refine retargeted_congr (State.tile_of_tiles (hstep j u .tiles (by simp)) k) (hstep j u .records (by simp))
      (hstep j u .settings (by simp)) (hother j k u hne) (fun hp => ?_) (hunknown h)
    split
    · exact (raised_computeTargets (cs := [.driftRange]) j .refl (by simp)).pending hp
    · exact hp

end Sys2Proof.Machine
end

section
/-! PROOFS. WRITE-SETTING (R182): O32, from the effects of the settings one by one. -/

namespace Sys2Proof.Machine

variable {s t u v w : State}

/-! ## What a write stores -/

theorem settingStored_of_inRange {k : SettingId} {x : Int} (h : settingIsChoice k = true → x = 0 ∨ x = 1) :
    settingStored k x = some (max (settingRow k).lo (min (settingRow k).hi x)) := by
  unfold settingStored
  dsimp only
  split
  · next hc =>
    have hrow : (settingRow k).lo = 0 ∧ (settingRow k).hi = 1 := by
      clear h; revert k; decide
    rw [hrow.1, hrow.2]
    rcases h hc with rfl | rfl <;> rfl
  · rfl

theorem settingStored_of_bad {k : SettingId} {x : Int} (hk : settingIsChoice k = true) (h : x ≠ 0 ∧ x ≠ 1) :
    settingStored k x = none := by
  have hrow : (settingRow k).lo = 0 ∧ (settingRow k).hi = 1 := by
    clear h; revert k; decide
  unfold settingStored
  dsimp only
  rw [if_pos hk, hrow.1, hrow.2, if_neg]
  omega

/-- The answer of a write that stores `v` where `value` was asked for. -/
theorem exec_writeSetting {p : Up} {n : Byte} {value : W32} (tag : W16) (h : n.toNat < 17) (hs : s.serves p) (he : s.mayEdit p)
    {v : Int} (hv : settingStored ⟨n.toNat, h⟩ value.toInt = some v) : exec (.writeSetting p tag n value) s =
      .next ((settingEffect ⟨n.toNat, h⟩ ((s.heard p).withSettings (s.settings.set ⟨n.toNat, h⟩ v))).replied p tag 0x02
        (if v = value.toInt then .ok else .okClamped) (n :: beBytes 4 (BitVec.ofInt 32 v).toNat)) := by
  have hbody : writeSettingBody n value (s.heard p) = (settingEffect ⟨n.toNat, h⟩
      ((s.heard p).withSettings (s.settings.set ⟨n.toNat, h⟩ v)),
      .stored (decide (v ≠ value.toInt)) (settingBytes ⟨n.toNat, h⟩ v)) := by
    rw [writeSettingBody, settingOf_eq_some h]
    dsimp only
    rw [hv]
    simp only [storeSetting, State.heard_fields]
  rw [exec_edit (code := 0x02) (body := writeSettingBody n value) rfl hs he hbody]
  rw [settingBytes_toNat h]
  by_cases hc : v = value.toInt <;> simp [Answer.stored, hc]

/-! ## The state written and the state answered -/

/-- The trackers of the ports, their states included, are the same. -/
structure SameTrackers (s t : State) : Prop where
  state : ∀ q, (t.up q).state = (s.up q).state
  completeRun : ∀ q, (t.up q).completeRun = (s.up q).completeRun
  openFrame : ∀ q, (t.up q).openFrame = (s.up q).openFrame
  lastOpen : ∀ q, (t.up q).lastOpen = (s.up q).lastOpen

/-- `u` is `s` with a cell counted and setting `k` at `v`. -/
structure Written (k : SettingId) (v : Int) (s u : State) : Prop where
  trackers : SameTrackers s u
  setting : u.setting k = v
  rest : Touches [.up .ua, .up .ub, .settings] s u

/-- `t` is `e` with a reply queued. -/
structure Replied (e t : State) : Prop where
  trackers : SameTrackers e t
  rest : Touches [.up .ua, .up .ub] e t

theorem written_heard (k : SettingId) (v : Int) (p : Up) (s : State) :
    Written k v s ((s.heard p).withSettings (s.settings.set k v)) := by
  have hup : ∀ q, ((s.heard p).withSettings (s.settings.set k v)).up q = (s.heard p).up q := fun q => by simp
  refine ⟨⟨fun q => ?_, fun q => ?_, fun q => ?_, fun q => ?_⟩, by simp [State.setting], ?_⟩
  iterate 4
    rw [hup, State.heard_up]
    split
    · next h => rw [h]
    · rfl
  · exact touches_withSettings _ ((touches_heard s p).mono (by cases p <;> simp)) (by simp)

theorem replied_replied (p : Up) (tag : W16) (code : Byte) (o : ReqOutcome) (data : List Byte) (e : State) :
    Replied e (e.replied p tag code o data) := by
  refine ⟨⟨fun q => ?_, fun q => ?_, fun q => ?_, fun q => ?_⟩, (touches_replied_self p tag code o data e).mono
    (by cases p <;> simp)⟩
  iterate 4
    rw [State.replied, State.enqueue, State.withUp_up]
    split
    · next h => rw [← h]
    · rfl

theorem Written.expired {k : SettingId} {x : Int} (h : Written k x s u) (hx : 1 ≤ x) (since : Nat) :
    u.expired k since = decide (x ≤ (s.clock - since : Int)) := by
  rw [expired_of_pos (by rw [h.setting]; exact hx), h.setting, show u.clock = s.clock from h.rest .clock (by simp)]

theorem Written.receiving {k : SettingId} {x : Int} (h : Written k x s u) : u.receiving = s.receiving := by
  rw [State.receiving, State.receiving, show u.receiver = s.receiver from h.rest .receiver (by simp)]

/-! ## The effects, setting by setting -/

/-- R11, R12: a write of the preferred source. -/
theorem written_source {x : Int} {wanted : Up} (hw : Written 0 x s u) (hwanted : (if x = 1 then .ub else .ua) = wanted) :
    (∀ a, s.selector.active = some a → (s.up a).state = .up →
      (wanted = a ∨ (s.up wanted).state ≠ .up → settle u = u.withSelector ⟨some a, none⟩) ∧
      (wanted ≠ a → (s.up wanted).state = .up →
        (s.receiving = false → settle u = raise .sourceSwitch none (u.withSelector ⟨some wanted, none⟩)) ∧
        (s.receiving = true → settle u = u.withSelector ⟨some a, some wanted⟩))) ∧
    (s.selector.active = none → (∀ q, (s.up q).state ≠ .up) → settle u = u.withSelector ⟨none, none⟩) := by
  have hsel : u.selector = s.selector := hw.rest .selector (by simp)
  have hpref : u.preferred = wanted := by rw [State.preferred, hw.setting, hwanted]
  refine ⟨fun a ha hup => ⟨fun hkept => ?_, fun hne hother => ?_⟩, fun hn hno => ?_⟩
  · refine settle_of_active_kept (by rw [hsel, ha]) (by rw [hw.trackers.state, hup]) ?_
    rw [hpref, hw.trackers.state]
    exact hkept
  · have hsettle := settle_of_preferred_other (u := u) (by rw [hsel, ha]) (by rw [hw.trackers.state, hup])
      (by rw [hpref]; exact hne) (by rw [hpref, hw.trackers.state, hother])
    rw [hpref, hw.receiving] at hsettle
    exact ⟨fun hr => by rw [hsettle, hr]; rfl, fun hr => by rw [hsettle, hr]; rfl⟩
  · exact settle_of_none (by rw [hsel, hn]) fun q => by rw [hw.trackers.state]; exact hno q

/-- R6: which ports a write of the source loss time takes from UP. -/
theorem Written.sourceStale {x : Int} (hw : Written 1 x s u) (hx : 1 ≤ x)
    (hopen : ∀ q, (s.up q).state = .up → (s.up q).lastOpen.isSome = true) (q : Up) : sourceStale u q =
      (decide ((s.up q).state = .up) && match (s.up q).lastOpen with
        | some a => decide (x ≤ (s.clock - a : Int))
        | none => false) := by
  rw [Sys2Proof.Machine.sourceStale, sourceFresh, hw.trackers.state, hw.trackers.lastOpen]
  cases ho : (s.up q).lastOpen with
  | some a => simp [hw.expired hx]
  | none =>
    have hnot : (s.up q).state ≠ .up := fun h => by
      have := hopen q h
      rw [ho] at this
      exact nomatch this
    simp [hnot]

/-- R6, log 8: a write of the source loss time. -/
theorem written_sourceLoss {x : Int} {stale : Up → Bool} (hw : Written 1 x s u) (hstale : ∀ q, sourceStale u q = stale q)
    (ht : Replied (sourceLossBoth u) t) :
    ((∀ q, stale q = false) → sourceLossBoth u = u) ∧
    (∀ q, stale q = true → (t.up q).state = .aligned ∧ (t.up q).completeRun = 0) ∧
    (∀ q, stale q = false → (t.up q).state = (s.up q).state ∧ (t.up q).completeRun = (s.up q).completeRun) ∧
    (∀ q, (t.up q).openFrame = (s.up q).openFrame ∧ (t.up q).lastOpen = (s.up q).lastOpen) ∧
    (∀ a, s.selector.active = some a → stale a = true →
      t.selector = ⟨if (s.up (otherPort a)).state = .up ∧ stale (otherPort a) = false then some (otherPort a)
        else none, none⟩ ∧ t.receiver = ⟨.idle, s.receiver.ready⟩ ∧
      (t.causes.get Cause.sourceSwitch.number).pending = true) ∧
    (∀ a, s.selector.active = some a → (s.up a).state = .up → stale a = false → stale (otherPort a) = true →
      t.selector = ⟨some a, none⟩ ∧ t.receiver = s.receiver ∧ t.causes = s.causes) := by
  have hsel : u.selector = s.selector := hw.rest .selector (by simp)
  have hrec : u.receiver = s.receiver := hw.rest .receiver (by simp)
  have hcauses : u.causes = s.causes := hw.rest .causes (by simp)
  have htsel : t.selector = (sourceLossBoth u).selector := ht.rest .selector (by simp)
  have htrec : t.receiver = (sourceLossBoth u).receiver := ht.rest .receiver (by simp)
  have htcauses : t.causes = (sourceLossBoth u).causes := ht.rest .causes (by simp)
  have hup := fun q => sourceLossBoth_up q u
  simp only [hstale] at hup
  refine ⟨fun h => sourceLossBoth_of_fresh fun q => (hstale q).trans (h q), fun q hq => ?_, fun q hq => ?_, fun q => ?_,
    fun a ha hsa => ?_, fun a ha hua hsa ho => ?_⟩
  · rw [ht.trackers.state, ht.trackers.completeRun, hup, if_pos hq]
    exact ⟨rfl, rfl⟩
  · rw [ht.trackers.state, ht.trackers.completeRun, hup, if_neg (by simp [hq])]
    exact ⟨hw.trackers.state q, hw.trackers.completeRun q⟩
  · rw [ht.trackers.openFrame, ht.trackers.lastOpen, hup, ← hw.trackers.openFrame, ← hw.trackers.lastOpen]
    split <;> exact ⟨rfl, rfl⟩
  · obtain ⟨h1, h2, h3⟩ := sourceLossBoth_of_active_stale (s := u) (by rw [hsel, ha]) ((hstale a).trans hsa)
    rw [hw.trackers.state, hstale] at h1
    rw [hrec] at h2
    rw [htsel, htrec, htcauses]
    exact ⟨h1, h2, h3⟩
  · obtain ⟨h1, h2, h3⟩ := sourceLossBoth_of_other_stale (s := u) (by rw [hsel, ha]) (by rw [hw.trackers.state, hua])
      ((hstale a).trans hsa) ((hstale _).trans ho)
    rw [htsel, htrec, htcauses]
    exact ⟨h1, h2.trans hrec, h3.trans hcauses⟩

theorem Written.frameLate {x : Int} (hw : Written 2 x s u) (hx : 1 ≤ x) (q : Up) : frameLate u q =
    match (s.up q).openFrame with
    | some f => decide (x ≤ (s.clock - f.openedAt : Int))
    | none => false := by
  rw [Sys2Proof.Machine.frameLate, hw.trackers.openFrame]
  cases (s.up q).openFrame with
  | some f => exact hw.expired hx _
  | none => rfl

theorem Written.frameOverdue {x : Int} (hw : Written 2 x s u) (hx : 1 ≤ x) : frameOverdue u =
    match s.receiver.phase with
    | .receiving _ a => decide (x ≤ (s.clock - a : Int))
    | .idle => false := by
  rw [Sys2Proof.Machine.frameOverdue, show u.receiver = s.receiver from hw.rest .receiver (by simp)]
  cases s.receiver.phase with
  | receiving m a => exact hw.expired hx _
  | idle => rfl

/-- R5, R40: a write of the frame open limit. -/
theorem written_frameLimit {x : Int} {late : Up → Bool} {overdue : Bool} (hw : Written 2 x s u)
    (hlate : ∀ q, frameLate u q = late q) (hover : frameOverdue u = overdue)
    (ht : Replied (receiverLimit (lateClosed u)) t) :
    ((∀ q, late q = false) → overdue = false → receiverLimit (lateClosed u) = u) ∧
    (∀ q, late q = true → (t.up q).openFrame = none ∧ (t.up q).completeRun = 0) ∧
    (∀ q, late q = false → overdue = false ∨ s.selector.active ≠ some q →
      (t.up q).openFrame = (s.up q).openFrame ∧ (t.up q).completeRun = (s.up q).completeRun) ∧
    (∀ q, (t.up q).state = (s.up q).state) ∧
    (overdue = false → t.receiver = s.receiver ∧ t.selector = s.selector ∧ t.incoming = s.incoming ∧ t.causes = s.causes) ∧
    (overdue = true → t.receiver = ⟨.idle, s.receiver.ready⟩ ∧ (∀ j, t.incoming.get j = []) ∧
      (t.causes.get Cause.frameLate.number).pending = true ∧
      (∀ q, s.selector.active = some q → (t.up q).openFrame = none) ∧
      (s.selector.toSwitch = none → t.selector = s.selector) ∧
      ∀ q, s.selector.toSwitch = some q → t.selector = ⟨some q, none⟩ ∧
        (t.causes.get Cause.sourceSwitch.number).pending = true) := by
  have hclosed := touches_lateClosed u
  have hup := fun q => lateClosed_up q u
  have hnone := lateClosed_of_none (s := u)
  simp only [hlate] at hup hnone
  generalize lateClosed u = c at *
  have hcs : Touches [.up .ua, .up .ub, .settings] s c := hw.rest.trans (hclosed.mono (by simp))
  have hcover : frameOverdue c = overdue := by
    rw [← hover]
    exact frameOverdue_congr (hclosed .receiver (by simp)) (hclosed .settings (by simp)) (hclosed .clock (by simp))
  have hsel : c.selector = s.selector := hcs .selector (by simp)
  have hrec : c.receiver = s.receiver := hcs .receiver (by simp)
  have hin : c.incoming = s.incoming := hcs .incoming (by simp)
  have hcauses : c.causes = s.causes := hcs .causes (by simp)
  have heup : ∀ q, (receiverLimit c).up q = if overdue = true ∧ c.selector.active = some q ∧ (c.up q).openFrame.isSome = true
      then (c.up q).uncompleted else c.up q := fun q => by
    cases overdue with
    | true =>
      rw [(receiverLimit_of_overdue hcover).2.2.2.1, closeLate_up]
      simp only [true_and]
    | false => rw [receiverLimit_of, if_neg (by simp [hcover]), if_neg fun h => nomatch h.1]
  have hrest : overdue = false → receiverLimit c = c := fun h => by rw [receiverLimit_of, if_neg (by simp [hcover, h])]
  have hoverdue := fun h : overdue = true => receiverLimit_of_overdue (hcover.trans h)
  generalize receiverLimit c = e at *
  have htsel : t.selector = e.selector := ht.rest .selector (by simp)
  have htrec : t.receiver = e.receiver := ht.rest .receiver (by simp)
  have htin : t.incoming = e.incoming := ht.rest .incoming (by simp)
  have htcauses : t.causes = e.causes := ht.rest .causes (by simp)
  refine ⟨fun hno h => (hrest h).trans (hnone hno), fun q hq => ?_, fun q hq hkept => ?_, fun q => ?_, fun h => ?_, fun h => ?_⟩
  · rw [ht.trackers.openFrame, ht.trackers.completeRun, heup, hup, if_pos hq]
    split <;> exact ⟨rfl, rfl⟩
  · rw [ht.trackers.openFrame, ht.trackers.completeRun, heup, if_neg, hup, if_neg (by simp [hq])]
    · exact ⟨hw.trackers.openFrame q, hw.trackers.completeRun q⟩
    · rintro ⟨ho, ha, -⟩
      rw [hsel] at ha
      rcases hkept with h | h
      · exact nomatch h.symm.trans ho
      · exact h ha
  · rw [ht.trackers.state, heup, ← hw.trackers.state, hup]
    (repeat' split) <;> rfl
  · rw [htsel, htrec, htin, htcauses, hrest h]
    exact ⟨hrec, hsel, hin, hcauses⟩
  · obtain ⟨h1, h2, h3, -, h5, h6⟩ := hoverdue h
    rw [hrec] at h1
    rw [hsel] at h5 h6
    rw [htsel, htrec, htin, htcauses]
    refine ⟨h1, fun j => by rw [h2, Table.get_replicate], h3, fun q hq => ?_, h5, h6⟩
    rw [ht.trackers.openFrame, heup]
    split
    · rfl
    · next hn =>
      have hnot : ¬ (c.up q).openFrame.isSome = true := fun ho => hn ⟨h, by rw [hsel, hq], ho⟩
      simpa using hnot

/-- R53: a write of the hold limit. -/
theorem written_holdLimit {x : Int} (hw : Written 3 x s u) (hx : 1 ≤ x) : holdLimit u =
    if s.engine.display = .live ∧ decide (x ≤ (s.clock - s.engine.holdStart : Int)) = true then
      raise .sourceLost none (u.withEngine { s.engine with display := .blanked }) else u := by
  rw [holdLimit, hw.expired hx, show u.engine = s.engine from hw.rest .engine (by simp)]

/-- R46: a write of the repeat interval. -/
theorem written_repeatLimit {x : Int} (hw : Written 4 x s u) (hx : 1 ≤ x) (ht : Replied (repeatLimit u) t) :
    (∀ a, s.engine.repeatStart = some a → s.engine.scan = none → decide (x ≤ (s.clock - a : Int)) = true →
      t.engine.scan.isSome = true ∧ t.engine = { s.engine with
        scan := t.engine.scan
        number := s.engine.number + 1
        repeatStart := none
        display := t.engine.display
        holdStart := t.engine.holdStart } ∧
      (s.receiver.ready = false → t.engine.display = s.engine.display ∧ t.engine.holdStart = s.engine.holdStart)) ∧
    ((∀ a, s.engine.repeatStart = some a → s.engine.scan.isSome = true ∨ decide (x ≤ (s.clock - a : Int)) = false) →
      repeatLimit u = u) := by
  have hengine : u.engine = s.engine := hw.rest .engine (by simp)
  have hte : t.engine = (repeatLimit u).engine := ht.rest .engine (by simp)
  refine ⟨fun a ha hs hp => ?_, fun h => repeatLimit_of_not_due fun a ha => ?_⟩
  · rw [repeatLimit_of_due (by rw [hengine, ha]) (by rw [hengine, hs]) ((hw.expired hx a).trans hp)] at hte
    have hfields := repeatScan_engine u
    have hscan := (beginNext_startScan u).1
    rw [← hte, hengine] at hfields
    rw [← hte] at hscan
    refine ⟨hscan, hfields, fun hready => ?_⟩
    obtain ⟨hdisplay, hhold, -⟩ := beginNext_display (startScan u)
    obtain ⟨hlive, hstart, -⟩ := startScan_of_not_ready (s := u)
      (by rw [show u.receiver = s.receiver from hw.rest .receiver (by simp)]; exact hready)
    rw [hengine] at hlive hstart
    rw [hte]
    exact ⟨hdisplay.trans hlive, hhold.trans hstart⟩
  · rw [hengine] at ha ⊢
    rw [hw.expired hx]
    exact h a ha

/-- R69: a write of the probe interval is followed by a choice. -/
theorem written_probeInterval {x : Int} (hw : Written 5 x s u) (hr : s.restart = none) (ht : Replied (chooseAndBegin u) t) :
    ((∀ q, s.query.outstanding = some q → q.phase ≠ .waiting) →
      choosesNext s.engine.scan.isNone (if s.d.tx = none then .sending else .waiting) u t.query) ∧
    (s.d.aligned = false ∨ s.query.outstanding.isSome = true → s.d.tx.isSome = true → chooseAndBegin u = u) := by
  have hquery : u.query = s.query := hw.rest .query (by simp)
  have hd : u.d = s.d := hw.rest .d (by simp)
  have hengine : u.engine = s.engine := hw.rest .engine (by simp)
  have hur : u.restart = none := (hw.rest .restart (by simp)).trans hr
  have hphase : nextPhase u = if s.d.tx = none then .sending else .waiting := by
    rw [nextPhase_eq, hd, restartDue, hur]
    cases s.d.tx <;> rfl
  have hb := touches_chooseAndBegin (.refl [.d, .engine, .query] u) (by simp)
  have halign : (chooseAndBegin u).d.aligned = u.d.aligned := by rw [(begins_chooseAndBegin u).1]
  have hafter := choosesAfter_chooseAndBegin (v := u) rfl rfl rfl
  refine ⟨fun hq => ?_, fun hidle htx => chooseAndBegin_of_busy (by rw [hd, hquery]; exact hidle) (by rw [hd, htx])⟩
  have hchoice := hafter (by rw [hquery]; exact hq)
  rw [hphase, hengine] at hchoice
  rw [show t.query = (chooseAndBegin u).query from ht.rest .query (by simp)]
  refine choosesNext_congr ?_ ?_ ?_ ?_ ?_ hchoice
  · simp [halign]
  · simpa using (hb .tiles (by simp)).symm
  · simpa using (hb .clock (by simp)).symm
  · simpa using (hb .settings (by simp)).symm
  · simp

/-- R65, R69, R73, R152: a write of the query timeout that the outstanding query has reached. -/
theorem written_queryTimeout {x : Int} {q : Query} {since : Nat} (hw : Written 6 x s u) (hx : 1 ≤ x)
    (ht : Replied (queryLimit .sense (queryLimit .probe u)) t) (hq : s.query.outstanding = some q)
    (hp : q.phase = .sent since) (hpast : decide (x ≤ (s.clock - since : Int)) = true) :
    t.query.outstanding ≠ some q ∧
    (q.kind = .probe → t.drift = s.drift ∧ t.causes = s.causes ∧
      t.tiles = s.tiles.set q.slot { s.tile q.slot with due := some (.afterProbe since) }) ∧
    (q.kind = .sense → (t.drift.get q.slot).miss = min 3 ((s.drift.get q.slot).miss + 1) ∧
      (t.causes.get Cause.senseStale.number).pending = true ∧
      ((s.drift.get q.slot).miss < 2 → t.tiles = s.tiles) ∧
      ((s.drift.get q.slot).miss = 2 → t.tiles = s.tiles.set q.slot ⟨.absent, none, some (.instant s.clock)⟩ ∧
        (t.causes.get Cause.tileLost.number).pending = true)) := by
  have huq : u.query.outstanding = some q := by rw [show u.query = s.query from hw.rest .query (by simp), hq]
  have hexp : u.expired 6 since = true := (hw.expired hx since).trans hpast
  have htile : ∀ j, u.tile j = s.tile j := State.tile_of_tiles (hw.rest .tiles (by simp))
  have hclock : u.clock = s.clock := hw.rest .clock (by simp)
  have hdrift : u.drift = s.drift := hw.rest .drift (by simp)
  have hcauses : u.causes = s.causes := hw.rest .causes (by simp)
  cases hk : q.kind with
  | probe =>
    rw [queryLimits_of_probe huq hp hk hexp] at ht
    obtain ⟨hslot, hout, -, hother, htouch, -⟩ := probeTimeout_after (s := u) since hp
    generalize chooseAndBegin (probeTimedOut q.slot since (dropQuery u)) = e at *
    have hte := State.tile_of_tiles (ht.rest .tiles (by simp))
    refine ⟨by rw [show t.query = e.query from ht.rest .query (by simp)]; exact hout, fun _ => ⟨?_, ?_, ?_⟩, fun h => (nomatch h)⟩
    · exact ((ht.rest .drift (by simp)).trans (htouch .drift (by simp))).trans hdrift
    · exact ((ht.rest .causes (by simp)).trans (htouch .causes (by simp))).trans hcauses
    · rw [htile] at hslot
      exact tiles_eq_set ((hte _).trans hslot) fun j hj => ((hte j).trans (hother j hj)).trans (htile j)
  | sense =>
    rw [queryLimits_of_sense huq hp hk hexp] at ht
    obtain ⟨hmiss, -, -, -, hstale, hout, -, hother, -, -, -, hkept, hlost⟩ := senseTimeout_after (s := u) since hp
    generalize chooseAndBegin (senseTimedOut q.slot (dropQuery u)) = e at *
    have hte := State.tile_of_tiles (ht.rest .tiles (by simp))
    have hothers : ∀ j, j ≠ q.slot → t.tile j = s.tile j := fun j hj => ((hte j).trans (hother j hj).1).trans (htile j)
    rw [hdrift] at hmiss hkept hlost
    rw [htile] at hkept
    rw [hclock] at hlost
    rw [show t.drift = e.drift from ht.rest .drift (by simp), show t.causes = e.causes from ht.rest .causes (by simp),
      show t.query = e.query from ht.rest .query (by simp)]
    refine ⟨hout, fun h => (nomatch h), fun _ => ⟨hmiss, hstale, fun h => ?_, fun h => ⟨?_, (hlost h).2⟩⟩⟩
    · refine Table.ext_get fun j => ?_
      by_cases hj : j = q.slot
      · rw [hj]
        exact (hte _).trans (hkept h)
      · exact hothers j hj
    · exact tiles_eq_set ((hte _).trans (hlost h).1) hothers

theorem written_queryTimeout_of_not_due {x : Int} (hw : Written 6 x s u) (hx : 1 ≤ x)
    (h : ∀ q, s.query.outstanding = some q → ∀ since, q.phase = .sent since → decide (x ≤ (s.clock - since : Int)) = false) :
    queryLimit .sense (queryLimit .probe u) = u := by
  have hnot : ∀ kind, queryLimit kind u = u := fun kind => queryLimit_of_not_due kind fun q hq since hp => by
    rw [show u.query = s.query from hw.rest .query (by simp)] at hq
    rw [hw.expired hx]
    exact h q hq since hp
  rw [hnot, hnot]

/-- R142: a write of a fallback coefficient. -/
theorem written_fallback {k : SettingId} {x : Int} (hw : Written k x s u) (ht : Replied (computeUnknownTargets u) t) :
    computeUnknownTargets u = (u.withDrift t.drift).withCauses t.causes ∧ raisesOnly [.driftRange] s t ∧
    ∀ j, ((s.tile j).presence = .unknown → retargeted j (s.drift.get j) t) ∧
      ((s.tile j).presence ≠ .unknown → t.drift.get j = s.drift.get j) := by
  have he := touches_computeUnknownTargets (.refl [.drift, .causes] u) (by simp)
  have hspec := fun j => computeUnknownTargets_spec j u
  have hraised : Raised [.driftRange] u.causes (computeUnknownTargets u).causes :=
    raised_computeUnknownTargets .refl (by simp)
  generalize computeUnknownTargets u = e at *
  have hdrift : u.drift = s.drift := hw.rest .drift (by simp)
  have hcauses : u.causes = s.causes := hw.rest .causes (by simp)
  have htdrift : t.drift = e.drift := ht.rest .drift (by simp)
  have htcauses : t.causes = e.causes := ht.rest .causes (by simp)
  refine ⟨?_, Raised.raisesOnly (cs := [.driftRange]) ?_, fun j => ?_⟩
  · rw [htdrift, htcauses]
    refine eq_of_touches he (by simp) fun f hf => ?_
    simp only [List.mem_cons, List.not_mem_nil, or_false] at hf
    rcases hf with rfl | rfl
    · simp [Part.same]
    · simp [Part.same]
  · rw [← hcauses, htcauses]
    exact hraised
  · obtain ⟨hunknown, hkept⟩ := hspec j
    rw [State.tile_of_tiles (hw.rest .tiles (by simp)), hdrift] at hunknown hkept
    refine ⟨fun h => ?_, fun h => by rw [htdrift]; exact hkept h⟩
    exact retargeted_congr (State.tile_of_tiles (ht.rest .tiles (by simp)) j) (ht.rest .records (by simp))
      (ht.rest .settings (by simp)) (by rw [htdrift]) (fun hp => by rw [htcauses]; exact hp) (hunknown h)

/-! ## The write -/

/-- Every limit that a write may let expire is at least 1 by its range. -/
theorem one_le_settingRow_lo {k : SettingId} (h1 : 1 ≤ k.val) (h6 : k.val ≤ 6) : 1 ≤ (settingRow k).lo := by
  revert k
  decide

theorem settingEffect_of_plain {k : SettingId} (h : k.val ∈ [7, 8, 9, 10, 11, 15, 16]) (s : State) : settingEffect k s = s := by
  simp only [List.mem_cons, List.not_mem_nil, or_false] at h
  rcases h with h | h | h | h | h | h | h <;> simp only [settingEffect, h]

theorem settingEffect_of_fallback {k : SettingId} (h : k.val ∈ [12, 13, 14]) (s : State) :
    settingEffect k s = computeUnknownTargets s := by
  simp only [List.mem_cons, List.not_mem_nil, or_false] at h
  rcases h with h | h | h <;> simp only [settingEffect, h]

/-- A choice by its number in the request. -/
theorem settingIsChoice_iff {n : Byte} (h : n.toNat < 17) : settingIsChoice ⟨n.toNat, h⟩ = true ↔ n = 0 ∨ n = 15 := by
  simp only [settingIsChoice, Bool.or_eq_true, beq_iff_eq, Fin.ext_iff, BitVec.toNat_eq]
  rfl

/-- What every write that stores a value leaves, whatever its effect. -/
theorem replied_settingEffect {k : SettingId} {x : Int} {p : Up} (tag : W16) (o : ReqOutcome) (data : List Byte) (hw : Written k x s u)
    (hset : u.settings = s.settings.set k x) (hqueue : (u.up p).queue = (s.up p).queue) :
    ((settingEffect k u).replied p tag 0x02 o data).settings = s.settings.set k x ∧
    (((settingEffect k u).replied p tag 0x02 o data).up p).queue = (s.up p).queue ++ [⟨0x30, tag, 0x02 :: o.code :: data⟩] ∧
    Touches [.up .ua, .up .ub, .d, .selector, .shown, .incoming, .receiver, .engine, .tiles, .query, .drift, .level,
      .settings, .causes] s ((settingEffect k u).replied p tag 0x02 o data) ∧
    ((settingEffect k u).replied p tag 0x02 o data).level.wall = s.level.wall := by
  have hr := touches_replied_self p tag 0x02 o data (settingEffect k u)
  have he := touches_settingEffect k (.refl [.up .ua, .up .ub, .d, .selector, .shown, .incoming, .receiver, .engine, .tiles,
    .query, .drift, .level, .causes] u) (by simp)
  refine ⟨?_, ?_, ?_, ?_⟩
  · exact (hr .settings (by simp)).trans ((he .settings (by simp)).trans hset)
  · rw [State.replied, State.enqueue, State.withUp_up_self]
    dsimp only
    rw [(portKept_settingEffect p k u).1, hqueue]
    rfl
  · exact ((hw.rest.mono (by simp)).trans (he.mono (by simp))).then hr (by cases p <;> simp)
  · rw [show ((settingEffect k u).replied p tag 0x02 o data).level = (settingEffect k u).level from hr .level (by simp),
      settingEffect_wall, show u.level = s.level from hw.rest .level (by simp)]

/-- Settles O32. -/
theorem writeSettingStoresOrClamps : Obligations.WriteSettingStoresOrClamps := by
  unfold Obligations.WriteSettingStoresOrClamps
  intro p tag n value s hs he
  refine ⟨fun hn => ?_, fun hn hbad => ?_, fun h hrange => ?_⟩
  · have hbody : writeSettingBody n value (s.heard p) = (s.heard p, .refuse .badIndex) := by
      rw [writeSettingBody, settingOf_eq_none hn]
    exact exec_edit rfl hs he hbody
  · have hlt : n.toNat < 17 := by rcases hn with rfl | rfl <;> decide
    have hbody : writeSettingBody n value (s.heard p) = (s.heard p, .refuse .badValue) := by
      rw [writeSettingBody, settingOf_eq_some hlt]
      dsimp only
      rw [settingStored_of_bad ((settingIsChoice_iff hlt).mpr hn) hbad]
    exact exec_edit rfl hs he hbody
  · intro k v outcome data u answer past
    have hstored := settingStored_of_inRange (k := k) (x := value.toInt) fun hc => hrange ((settingIsChoice_iff h).mp hc)
    have hexec := exec_writeSetting tag h hs he hstored
    have hw : Written k v s u := written_heard k v p s
    have ht : Replied (settingEffect k u) (answer (settingEffect k u)) := replied_replied p tag 0x02 outcome data _
    obtain ⟨hset, hqueue, htouch, hwall⟩ := replied_settingEffect tag outcome data hw (p := p) (by simp [u]) (by simp [u])
    have hpos : 1 ≤ n.toNat → n.toNat ≤ 6 → 1 ≤ v := fun h1 h6 =>
      (one_le_settingRow_lo (k := k) h1 h6).trans (le_max_left _ _)
    have hk : ∀ {j : SettingId}, n.toNat = j.val → k = j := fun hj => Fin.ext hj
    refine ⟨answer (settingEffect k u), hexec, hset, hqueue, htouch, hwall, fun hn => ?_, fun hn => ?_, fun hn hopen => ?_,
      fun hn => ?_, fun hn => ?_, fun hn => ?_, fun hn => ?_, fun hn => ?_, fun hn => ?_⟩
    · exact congrArg answer (settingEffect_of_plain (k := k) hn u)
    · have heff : settingEffect k u = settle u := by rw [hk (j := 0) hn]; rfl
      rw [hk (j := 0) hn] at hw
      intro wanted
      obtain ⟨hactive, hnone⟩ := written_source (wanted := wanted) hw rfl
      rw [heff]
      refine ⟨fun a ha hup => ⟨fun hkept => congrArg answer ((hactive a ha hup).1 hkept), fun hne ho => ?_⟩,
        fun ha hno => congrArg answer (hnone ha hno)⟩
      obtain ⟨hidle, hreceiving⟩ := (hactive a ha hup).2 hne ho
      exact ⟨fun hr => congrArg answer (hidle hr), fun hr => congrArg answer (hreceiving hr)⟩
    · have heff : settingEffect k u = sourceLossBoth u := by rw [hk (j := 1) hn]; rfl
      rw [heff] at ht ⊢
      rw [hk (j := 1) hn] at hw
      intro stale
      have hstale : ∀ q, sourceStale u q = stale q := hw.sourceStale (hpos (by omega) (by omega)) hopen
      obtain ⟨hfresh, hrest⟩ := written_sourceLoss hw hstale ht
      exact ⟨fun hno => congrArg answer (hfresh hno), hrest⟩
    · have heff : settingEffect k u = receiverLimit (lateClosed u) := by rw [hk (j := 2) hn]; rfl
      rw [heff] at ht ⊢
      rw [hk (j := 2) hn] at hw
      intro late overdue
      have h1 := hpos (by omega) (by omega)
      have hlate : ∀ q, frameLate u q = late q := hw.frameLate h1
      have hover : frameOverdue u = overdue := hw.frameOverdue h1
      obtain ⟨hnone, hrest⟩ := written_frameLimit hw hlate hover ht
      exact ⟨fun hno ho => congrArg answer (hnone hno ho), hrest⟩
    · have heff : settingEffect k u = holdLimit u := by rw [hk (j := 3) hn]; rfl
      rw [heff]
      rw [hk (j := 3) hn] at hw
      exact congrArg answer (written_holdLimit hw (hpos (by omega) (by omega)))
    · have heff : settingEffect k u = repeatLimit u := by rw [hk (j := 4) hn]; rfl
      rw [heff] at ht ⊢
      rw [hk (j := 4) hn] at hw
      obtain ⟨hdue, hnot⟩ := written_repeatLimit hw (hpos (by omega) (by omega)) ht
      exact ⟨hdue, fun hno => congrArg answer (hnot hno)⟩
    · have heff : settingEffect k u = chooseAndBegin u := by rw [hk (j := 5) hn]; rfl
      rw [heff] at ht ⊢
      rw [hk (j := 5) hn] at hw
      obtain ⟨hchoice, hbusy⟩ := written_probeInterval hw hs.2.2 ht
      exact ⟨hchoice, fun hidle htx => congrArg answer (hbusy hidle htx)⟩
    · have heff : settingEffect k u = queryLimit .sense (queryLimit .probe u) := by rw [hk (j := 6) hn]; rfl
      rw [heff] at ht ⊢
      rw [hk (j := 6) hn] at hw
      have h1 := hpos (by omega) (by omega)
      exact ⟨fun q a hq hp hpast => written_queryTimeout hw h1 ht hq hp hpast,
        fun hno => congrArg answer (written_queryTimeout_of_not_due hw h1 hno)⟩
    · have heff : settingEffect k u = computeUnknownTargets u := settingEffect_of_fallback (k := k) hn u
      rw [heff] at ht ⊢
      obtain ⟨hsame, hrest⟩ := written_fallback hw ht
      exact ⟨congrArg answer hsame, hrest⟩

end Sys2Proof.Machine
end
